-- ==== Sys2Proof/Word.lean ====
section
/-! DEFINITION. The widths of the block (00_scope R8 to R10) and the two frame delimiters. -/

namespace Sys2Proof

/-- A `u8`: a serial character, an address byte, a data byte, a response byte (R9, R10). -/
abbrev Byte := BitVec 8

/-- A `u16`: a DALI forward word, an item's data (R9, R70). -/
abbrev Word := BitVec 16

/-- The value operand port: `VALUE_W` = 32 bits, two's complement (R8). -/
abbrev Value := BitVec 32

/-- One hex digit, by its value (R10). -/
abbrev Nibble := BitVec 4

/-- A hex string by the values of its digits, most significant first: each is sent as one of the
uppercase characters `0` to `9`, `A` to `F` (R10, R56). -/
abbrev HexString := List Nibble

/-- The byte `SOH`, the first of every frame (R10, R85). -/
def soh : Byte := 0x01

/-- The byte `ETB`, the last of every frame (R10, R85). -/
def etb : Byte := 0x17

end Sys2Proof
end

