-- ==== Sys2Proof/Config.lean ====
section
/-! DEFINITION. The configuration record `CFG` (00_scope R8): what an implementation or a host fixes at
construction. No value of an OPEN field is chosen here: a `Config` is a record, and a statement that ranges over
every `Config` ranges over every value of them. `Machine/Profile.lean` holds the one the reset state takes. The closed enumerations its
fields speak of stand here too. -/

namespace Sys2Proof

/-- `DALIValueType` (R22). -/
inductive ValueType where
  | dataByte | group | scene | short | random | boolean | dataByteAndFalse | null
deriving DecidableEq, Repr

/-- `DALICommandCode` (R21, R121): the 72 members. Numbers and value types are the tables'. -/
inductive Code where
  | directArcPower | off | up | down | stepUp | stepDown | recallMaxLevel | recallMinLevel | stepDownAndOff
  | onAndStepUp | enableDAPCSequence | goToScene
  | reset | storeActualLevelInDTR | storeDTRAsMaxLevel | storeDTRAsMinLevel | storeDTRAsSystemFailureLevel
  | storeDTRAsPowerOnLevel | storeDTRAsFadeTime | storeDTRAsFadeRate | storeDTRasScene | removeScene
  | addToGroup | removeFromGroup | storeDTRAsShortAddress | enableWriteMemory
  | queryStatus | queryControlGear | queryLampFailure | queryLampPowerOn | queryLimitError | queryResetState
  | queryMissingShortAddress | queryVersionNumber | queryContentDTR | queryDeviceType | queryPhysicalMinimum
  | queryPowerFailure | queryContentDTR1 | queryContentDTR2 | queryActualLevel | queryMaxLevel | queryMinLevel
  | queryPowerOnLevel | querySystemFailureLevel | queryFadeTimeRate | querySceneLevel | queryGroups0to7
  | queryGroups8to15 | queryRandomAddressH | queryRandomAddressM | queryRandomAddressL | readMemoryLocation
  | extendedVersionNumber
  | terminate | dataTransferRegister | initialise | randomize | compare | withdraw | ping | searchAddressH
  | searchAddressM | searchAddressL | programShortAddress | verifyShortAddress | queryShortAddress
  | physicalSelection | enableDeviceOfType | setDTR1 | setDTR2 | writeMemoryLocation
deriving DecidableEq, Repr

/-- Every member of the enumeration (R121). -/
def Code.all : List Code :=
  [.directArcPower, .off, .up, .down, .stepUp, .stepDown, .recallMaxLevel, .recallMinLevel, .stepDownAndOff,
   .onAndStepUp, .enableDAPCSequence, .goToScene, .reset, .storeActualLevelInDTR, .storeDTRAsMaxLevel,
   .storeDTRAsMinLevel, .storeDTRAsSystemFailureLevel, .storeDTRAsPowerOnLevel, .storeDTRAsFadeTime,
   .storeDTRAsFadeRate, .storeDTRasScene, .removeScene, .addToGroup, .removeFromGroup,
   .storeDTRAsShortAddress, .enableWriteMemory, .queryStatus, .queryControlGear, .queryLampFailure,
   .queryLampPowerOn, .queryLimitError, .queryResetState, .queryMissingShortAddress, .queryVersionNumber,
   .queryContentDTR, .queryDeviceType, .queryPhysicalMinimum, .queryPowerFailure, .queryContentDTR1,
   .queryContentDTR2, .queryActualLevel, .queryMaxLevel, .queryMinLevel, .queryPowerOnLevel,
   .querySystemFailureLevel, .queryFadeTimeRate, .querySceneLevel, .queryGroups0to7, .queryGroups8to15,
   .queryRandomAddressH, .queryRandomAddressM, .queryRandomAddressL, .readMemoryLocation,
   .extendedVersionNumber, .terminate, .dataTransferRegister, .initialise, .randomize, .compare, .withdraw,
   .ping, .searchAddressH, .searchAddressM, .searchAddressL, .programShortAddress, .verifyShortAddress,
   .queryShortAddress, .physicalSelection, .enableDeviceOfType, .setDTR1, .setDTR2, .writeMemoryLocation]

/-- The boot methods (R8, R413). -/
inductive BootMethod where
  | noBoot | waitOnly | setDTR
deriving DecidableEq, Repr

/-- The seven request types (R25). -/
inductive RequestType where
  | send | distinctSend | confQuery | confChange | sequenceEnd | continuousSend | firmwareReset
deriving DecidableEq, Repr

/-- The eight response types (R26). -/
inductive ResponseType where
  | response | distinctResponse | noResponse | distinctNoResponse
  | confResponse | confChangeAck | specReceived | firmwareResetAck
deriving DecidableEq, Repr

/-- The acknowledgement flag `setConfigAckFlag` (R26). -/
inductive AckFlag where
  | set | readOnlyItem | outOfRange
deriving DecidableEq, Repr

/-- The special conditions `specialMessage` (R26). -/
inductive SpecialMessage where
  | voltageOK | voltageLoss | gridVoltageDetected | badPowerSourceDetected
  | bufferFull | checksumError | unknownCommand | channelNotOpen
deriving DecidableEq, Repr

/-- `CFG.reqTypeCode` (R8): one byte for each request type. -/
structure RequestCodes where
  send : Byte
  distinctSend : Byte
  confQuery : Byte
  confChange : Byte
  sequenceEnd : Byte
  continuousSend : Byte
  firmwareReset : Byte
deriving DecidableEq, Repr

/-- `CFG.rspTypeCode` (R8): one byte for each response type. -/
structure ResponseCodes where
  response : Byte
  distinctResponse : Byte
  noResponse : Byte
  distinctNoResponse : Byte
  confResponse : Byte
  confChangeAck : Byte
  specReceived : Byte
  firmwareResetAck : Byte
deriving DecidableEq, Repr

/-- `CFG.ackFlagCode` (R8): one byte for each acknowledgement flag. -/
structure AckCodes where
  set : Byte
  readOnlyItem : Byte
  outOfRange : Byte
deriving DecidableEq, Repr

/-- `CFG.specCode` (R8): one byte for each special condition. -/
structure SpecCodes where
  voltageOK : Byte
  voltageLoss : Byte
  gridVoltageDetected : Byte
  badPowerSourceDetected : Byte
  bufferFull : Byte
  checksumError : Byte
  unknownCommand : Byte
  channelNotOpen : Byte
deriving DecidableEq, Repr

/-- A result of `CFG.confDataHex`: a hex string of 2 or of 4 characters (R289), by its value. -/
inductive ConfHex where
  | two (b : Byte)
  | four (w : Word)
deriving DecidableEq, Repr

/-- `CFG.confDataHex` as plain data (log 8): the entries listed here, and the test default of R289 for every other pair of
arguments. Every function of an index and a datum is one of these (`Laws/Config.lean`). -/
structure ConfLayout where
  table : List ((Byte × Word) × ConfHex)
deriving DecidableEq, Repr

/-- A row of `CFG.indirectOpcodes` (R122): the code, which is the opcode, of a block command the first of its sixteen; the
command value type; the response value type. The form is `IND16` where the command carries a scene or a group, else `IND`. -/
structure IndirectRow where
  opcode : Byte
  cmdType : ValueType
  respType : ValueType
deriving DecidableEq, Repr

/-- A row of `CFG.specialCodes` (R123): the code, from 256 on; the command value type; the response value type. The form is
`SPC-N`, `SPC-A` or `SPC-D` as the command carries nothing, a short address or a byte. -/
structure SpecialRow where
  code : Nat
  cmdType : ValueType
  respType : ValueType
deriving DecidableEq, Repr

/-- `CFG.indirectOpcodes` as plain data (log 7): the rows listed here, and the default row of R122 for every other indirect
command. Every table over the commands of R122 is one of these (`Laws/Config.lean`). -/
structure IndirectTable where
  rows : List (Code × IndirectRow)
deriving DecidableEq, Repr

/-- `CFG.specialCodes` as plain data (log 7): the rows listed here, and the default row of R123 for every other special
command. -/
structure SpecialTable where
  rows : List (Code × SpecialRow)
deriving DecidableEq, Repr

/-- The configuration record `CFG` (R8). What the fields must meet is `Config.wf`. -/
structure Config where
  bootMethod : BootMethod
  bootSettleTime : Nat
  requestCodes : RequestCodes
  responseCodes : ResponseCodes
  ackCodes : AckCodes
  specCodes : SpecCodes
  indirectOpcodes : IndirectTable
  specialCodes : SpecialTable
  confLayout : ConfLayout
  verifyRxChecksum : Bool
  emitOpenWithoutBoot : Bool
deriving DecidableEq, Repr

/-- Every request type, in the order of R25's table. -/
def RequestType.all : List RequestType :=
  [.send, .distinctSend, .continuousSend, .confQuery, .confChange, .sequenceEnd, .firmwareReset]

/-- Every response type, in the order of R26. -/
def ResponseType.all : List ResponseType :=
  [.response, .distinctResponse, .noResponse, .distinctNoResponse, .confResponse, .confChangeAck, .specReceived,
   .firmwareResetAck]

/-- Every acknowledgement flag, in the order of R26. -/
def AckFlag.all : List AckFlag := [.set, .readOnlyItem, .outOfRange]

/-- Every special condition, in the order of R26. -/
def SpecialMessage.all : List SpecialMessage :=
  [.voltageOK, .voltageLoss, .gridVoltageDetected, .badPowerSourceDetected, .bufferFull, .checksumError,
   .unknownCommand, .channelNotOpen]

/-- `CFG.reqTypeCode(t)` (R8). -/
def Config.reqTypeCode (cfg : Config) : RequestType → Byte
  | .send => cfg.requestCodes.send
  | .distinctSend => cfg.requestCodes.distinctSend
  | .confQuery => cfg.requestCodes.confQuery
  | .confChange => cfg.requestCodes.confChange
  | .sequenceEnd => cfg.requestCodes.sequenceEnd
  | .continuousSend => cfg.requestCodes.continuousSend
  | .firmwareReset => cfg.requestCodes.firmwareReset

/-- `CFG.rspTypeCode(t)` (R8). -/
def Config.rspTypeCode (cfg : Config) : ResponseType → Byte
  | .response => cfg.responseCodes.response
  | .distinctResponse => cfg.responseCodes.distinctResponse
  | .noResponse => cfg.responseCodes.noResponse
  | .distinctNoResponse => cfg.responseCodes.distinctNoResponse
  | .confResponse => cfg.responseCodes.confResponse
  | .confChangeAck => cfg.responseCodes.confChangeAck
  | .specReceived => cfg.responseCodes.specReceived
  | .firmwareResetAck => cfg.responseCodes.firmwareResetAck

/-- `CFG.ackFlagCode(f)` (R8). -/
def Config.ackFlagCode (cfg : Config) : AckFlag → Byte
  | .set => cfg.ackCodes.set
  | .readOnlyItem => cfg.ackCodes.readOnlyItem
  | .outOfRange => cfg.ackCodes.outOfRange

/-- `CFG.specCode(m)` (R8). -/
def Config.specCode (cfg : Config) : SpecialMessage → Byte
  | .voltageOK => cfg.specCodes.voltageOK
  | .voltageLoss => cfg.specCodes.voltageLoss
  | .gridVoltageDetected => cfg.specCodes.gridVoltageDetected
  | .badPowerSourceDetected => cfg.specCodes.badPowerSourceDetected
  | .bufferFull => cfg.specCodes.bufferFull
  | .checksumError => cfg.specCodes.checksumError
  | .unknownCommand => cfg.specCodes.unknownCommand
  | .channelNotOpen => cfg.specCodes.channelNotOpen

end Sys2Proof
end

