-- ==== Sys2Proof/Machine/Profile.lean ====
section
/-! DEFINITION. The configuration the reset state takes. DESIGN CHOICE (log 4, log 5), unsafe: the spec leaves these
parameters OPEN and gives the numbers of profile `P0` for its vectors only (95_test_vectors, section 0; 92_eei_decisions
D40). No statement of this package rests on them. -/

namespace Sys2Proof

/-- `CFG.reqTypeCode` of profile `P0`; `Send` = 0x01 is fixed by 30_encoding R88. -/
def profileRequestCodes : RequestCodes where
  send := 0x01
  confQuery := 0x05
  confChange := 0x07
  continuousSend := 0x0A
  distinctSend := 0x0B
  sequenceEnd := 0x0C
  firmwareReset := 0x0F

/-- `CFG.rspTypeCode` of profile `P0`. -/
def profileResponseCodes : ResponseCodes where
  response := 0x03
  noResponse := 0x04
  confResponse := 0x06
  confChangeAck := 0x08
  specReceived := 0x09
  distinctResponse := 0x0D
  distinctNoResponse := 0x0E
  firmwareResetAck := 0x10

/-- `CFG.ackFlagCode` of profile `P0`. -/
def profileAckCodes : AckCodes := ⟨0, 1, 2⟩

/-- `CFG.specCode` of profile `P0`. -/
def profileSpecCodes : SpecCodes := ⟨0, 1, 2, 3, 4, 5, 6, 7⟩

/-- Profile `P0` with no boot method and a settle time of 3000; `verifyRxChecksum` false, `emitOpenWithoutBoot` true and the
two default tables are the defaults of 00_scope R8. -/
def profileP0 : Config where
  bootMethod := .noBoot
  bootSettleTime := 3000
  requestCodes := profileRequestCodes
  responseCodes := profileResponseCodes
  ackCodes := profileAckCodes
  specCodes := profileSpecCodes
  indirectOpcodes := ⟨[]⟩
  specialCodes := ⟨[]⟩
  confLayout := ⟨[]⟩
  verifyRxChecksum := false
  emitOpenWithoutBoot := true

end Sys2Proof
end

