-- ==== Sys2Proof/Syntax.lean ====
section
/-! DEFINITION. The records that travel on the ports (10_state R20 to R26), the errors (60_exceptions R371 to R378)
and the instruction set (00_scope R2): one constructor of `Instr` per mnemonic of spec/opcode_table.json. -/

namespace Sys2Proof

/-- `DALIAddress` (R20): a short address 0..63, a group 0..15 or broadcast, 81 values. -/
inductive DALIAddress where
  | short (n : BitVec 6)
  | group (g : BitVec 4)
  | broadcast
deriving DecidableEq, Repr

/-- `DALICommand` (R23). A value that a valid command carries fits a byte (R126). -/
structure DALICommand where
  code : Code
  address : Option DALIAddress
  value : Option Byte
deriving DecidableEq, Repr

/-- What a caller gives to have a `DALICommand` constructed (R128): a code, an optional address, an optional value. -/
structure CommandDesc where
  code : Code
  address : Option DALIAddress
  value : Option Value
deriving DecidableEq, Repr

/-- The `value` of a `DALIResponse` (R24): an unsigned byte or a Boolean. -/
inductive ResponseValue where
  | number (b : Byte)
  | flag (b : Bool)
deriving DecidableEq, Repr

/-- `DALIResponse` (R24). -/
structure DALIResponse where
  value : ResponseValue
  valueType : ValueType
deriving DecidableEq, Repr

/-- The kinds of `ValidationError` (R371). -/
inductive ValidationKind where
  | missingValue
  | unexpectedValue
  | valueOutOfRange (min max : Nat)
deriving DecidableEq, Repr

/-- The errors of the block, E1 to E8, with the information each carries (R380). -/
inductive Error where
  | validationError (kind : ValidationKind)
  | malformedBytecode (word : Word)
  | protocolError
  | unknownResponseType (code : Byte)
  | unexpectedResponse
  | requestAlreadyInFlight
  | forbiddenOperation
  | cancelled
deriving DecidableEq, Repr

/-- `FoxtronRequest` (R25) as a tagged union: each type carries the fields that some rule reads for it (log 13). -/
inductive FoxtronRequest where
  | send (command : DALICommand) (priority : Option Value)
  | distinctSend (command : DALICommand) (priority : Option Value) (doubleSend sequence : Option Bool)
  | continuousSend (command : DALICommand) (priority : Option Value) (doubleSend : Option Bool)
  | confQuery (itemIndex : Byte) (doubleSend : Option Bool)
  | confChange (itemIndex : Byte) (itemData : Word) (doubleSend : Option Bool)
  | sequenceEnd (doubleSend : Option Bool)
  | firmwareReset (doubleSend : Option Bool)
deriving DecidableEq, Repr

/-- A request as it stands on the request port: R25's record, every field optional. -/
structure RequestRecord where
  type : RequestType
  daliCommand : Option CommandDesc
  priority : Option Value
  doubleSend : Option Bool
  sequence : Option Bool
  itemIndex : Option Byte
  itemData : Option Word
deriving DecidableEq, Repr

/-- What a `Response` or `DistinctResponse` frame reports (R306): a data length of 0, a response length of 0, or an answer. -/
inductive AnswerReport where
  | noForward
  | noBackward (command : DALICommand)
  | answered (command : DALICommand) (response : DALIResponse)
deriving DecidableEq, Repr

/-- What a `NoResponse` or `DistinctNoResponse` frame reports (R308): a data length of 0, or the command sent. -/
inductive ForwardReport where
  | noForward
  | forward (command : DALICommand)
deriving DecidableEq, Repr

/-- `FoxtronResponse` (R26, R315) as a tagged union; the record's optional fields are the functions of `Machine/Flags.lean`. -/
inductive FoxtronResponse where
  | response (report : AnswerReport)
  | distinctResponse (report : AnswerReport)
  | noResponse (report : ForwardReport)
  | distinctNoResponse (report : ForwardReport)
  | confResponse (itemIndex : Byte) (itemData : Word)
  | confChangeAck (itemIndex : Byte) (itemData : Word) (flag : AckFlag)
  | specReceived (message : SpecialMessage)
  | firmwareResetAck
deriving DecidableEq, Repr

/-- The instructions (R2). A DALI command carries the operands a caller may present: an optional address and an optional
value on the 32-bit port (R128). A request carries what R25 lets it carry, its command still to be constructed. A response
carries what its frame reports. -/
inductive Instr where
  -- level commands (R150 to R161)
  | directArcPower (a : Option DALIAddress) (v : Option Value)
  | off (a : Option DALIAddress) (v : Option Value)
  | up (a : Option DALIAddress) (v : Option Value)
  | down (a : Option DALIAddress) (v : Option Value)
  | stepUp (a : Option DALIAddress) (v : Option Value)
  | stepDown (a : Option DALIAddress) (v : Option Value)
  | recallMaxLevel (a : Option DALIAddress) (v : Option Value)
  | recallMinLevel (a : Option DALIAddress) (v : Option Value)
  | stepDownAndOff (a : Option DALIAddress) (v : Option Value)
  | onAndStepUp (a : Option DALIAddress) (v : Option Value)
  | enableDAPCSequence (a : Option DALIAddress) (v : Option Value)
  | goToScene (a : Option DALIAddress) (v : Option Value)
  -- configuration, scene and group commands (R170 to R183)
  | reset (a : Option DALIAddress) (v : Option Value)
  | storeActualLevelInDTR (a : Option DALIAddress) (v : Option Value)
  | storeDTRAsMaxLevel (a : Option DALIAddress) (v : Option Value)
  | storeDTRAsMinLevel (a : Option DALIAddress) (v : Option Value)
  | storeDTRAsSystemFailureLevel (a : Option DALIAddress) (v : Option Value)
  | storeDTRAsPowerOnLevel (a : Option DALIAddress) (v : Option Value)
  | storeDTRAsFadeTime (a : Option DALIAddress) (v : Option Value)
  | storeDTRAsFadeRate (a : Option DALIAddress) (v : Option Value)
  | storeDTRasScene (a : Option DALIAddress) (v : Option Value)
  | removeScene (a : Option DALIAddress) (v : Option Value)
  | addToGroup (a : Option DALIAddress) (v : Option Value)
  | removeFromGroup (a : Option DALIAddress) (v : Option Value)
  | storeDTRAsShortAddress (a : Option DALIAddress) (v : Option Value)
  | enableWriteMemory (a : Option DALIAddress) (v : Option Value)
  -- query commands (R200 to R227)
  | queryStatus (a : Option DALIAddress) (v : Option Value)
  | queryControlGear (a : Option DALIAddress) (v : Option Value)
  | queryLampFailure (a : Option DALIAddress) (v : Option Value)
  | queryLampPowerOn (a : Option DALIAddress) (v : Option Value)
  | queryLimitError (a : Option DALIAddress) (v : Option Value)
  | queryResetState (a : Option DALIAddress) (v : Option Value)
  | queryMissingShortAddress (a : Option DALIAddress) (v : Option Value)
  | queryVersionNumber (a : Option DALIAddress) (v : Option Value)
  | queryContentDTR (a : Option DALIAddress) (v : Option Value)
  | queryDeviceType (a : Option DALIAddress) (v : Option Value)
  | queryPhysicalMinimum (a : Option DALIAddress) (v : Option Value)
  | queryPowerFailure (a : Option DALIAddress) (v : Option Value)
  | queryContentDTR1 (a : Option DALIAddress) (v : Option Value)
  | queryContentDTR2 (a : Option DALIAddress) (v : Option Value)
  | queryActualLevel (a : Option DALIAddress) (v : Option Value)
  | queryMaxLevel (a : Option DALIAddress) (v : Option Value)
  | queryMinLevel (a : Option DALIAddress) (v : Option Value)
  | queryPowerOnLevel (a : Option DALIAddress) (v : Option Value)
  | querySystemFailureLevel (a : Option DALIAddress) (v : Option Value)
  | queryFadeTimeRate (a : Option DALIAddress) (v : Option Value)
  | querySceneLevel (a : Option DALIAddress) (v : Option Value)
  | queryGroups0to7 (a : Option DALIAddress) (v : Option Value)
  | queryGroups8to15 (a : Option DALIAddress) (v : Option Value)
  | queryRandomAddressH (a : Option DALIAddress) (v : Option Value)
  | queryRandomAddressM (a : Option DALIAddress) (v : Option Value)
  | queryRandomAddressL (a : Option DALIAddress) (v : Option Value)
  | readMemoryLocation (a : Option DALIAddress) (v : Option Value)
  | extendedVersionNumber (a : Option DALIAddress) (v : Option Value)
  -- special commands (R240 to R257)
  | terminate (a : Option DALIAddress) (v : Option Value)
  | dataTransferRegister (a : Option DALIAddress) (v : Option Value)
  | initialise (a : Option DALIAddress) (v : Option Value)
  | randomize (a : Option DALIAddress) (v : Option Value)
  | compare (a : Option DALIAddress) (v : Option Value)
  | withdraw (a : Option DALIAddress) (v : Option Value)
  | ping (a : Option DALIAddress) (v : Option Value)
  | searchAddressH (a : Option DALIAddress) (v : Option Value)
  | searchAddressM (a : Option DALIAddress) (v : Option Value)
  | searchAddressL (a : Option DALIAddress) (v : Option Value)
  | programShortAddress (a : Option DALIAddress) (v : Option Value)
  | verifyShortAddress (a : Option DALIAddress) (v : Option Value)
  | queryShortAddress (a : Option DALIAddress) (v : Option Value)
  | physicalSelection (a : Option DALIAddress) (v : Option Value)
  | enableDeviceOfType (a : Option DALIAddress) (v : Option Value)
  | setDTR1 (a : Option DALIAddress) (v : Option Value)
  | setDTR2 (a : Option DALIAddress) (v : Option Value)
  | writeMemoryLocation (a : Option DALIAddress) (v : Option Value)
  -- requests (R286 to R292)
  | send (command : CommandDesc) (priority : Option Value)
  | distinctSend (command : CommandDesc) (priority : Option Value) (doubleSend sequence : Option Bool)
  | continuousSend (command : CommandDesc) (priority : Option Value) (doubleSend : Option Bool)
  | confQuery (itemIndex : Byte) (doubleSend : Option Bool)
  | confChange (itemIndex : Byte) (itemData : Word) (doubleSend : Option Bool)
  | sequenceEnd (doubleSend : Option Bool)
  | firmwareReset (doubleSend : Option Bool)
  -- responses (R306 to R313)
  | response (report : AnswerReport)
  | distinctResponse (report : AnswerReport)
  | noResponse (report : ForwardReport)
  | distinctNoResponse (report : ForwardReport)
  | confResponse (itemIndex : Byte) (itemData : Word)
  | confChangeAck (itemIndex : Byte) (itemData : Word) (flag : AckFlag)
  | specReceived (message : SpecialMessage)
  | firmwareResetAck
deriving DecidableEq, Repr

/-- An instruction as it is presented to the block: a forward word (30_encoding R70), the caller's descriptor with its code on
the 10-bit port (30_encoding R112, 10_state R21; its two address fields are on 32-bit
two's complement ports as the value is, DESIGN CHOICE, log 31), a record on the request port (10_state R25), or an inbound chunk
(20_memory R54). -/
inductive Encoded where
  | word (w : Word)
  | descriptor (code : BitVec 10) (shortAddress groupAddress value : Option Value)
  | request (r : RequestRecord)
  | chunk (f : List Byte)
deriving DecidableEq, Repr

/-- Why something presented is no instruction: an error of the block, or it cannot stand on its port at all (93, G19). -/
inductive Reject where
  | raised (e : Error)
  | codeNotInEnumeration
  | requestFieldAbsent
deriving DecidableEq, Repr

end Sys2Proof
end

