-- ==== Sys2Proof/Machine/Operands.lean ====
section
/-! DEFINITION. The command codes, their tables and the operand forms: `CFG.indirectOpcodes` and `CFG.specialCodes`
(40_dali_codec_core R121 to R125), their shape, the value contract (R126), `address` (R120), `construct` (R128), the address byte
(30_encoding R79), the priority field (46_foxtron_requests R286), `levelOfFraction` (30_encoding R115). -/

namespace Sys2Proof

/-- What the tables say of a code: `DirectArcPower` stands in neither (R121), an indirect command is a row of
`CFG.indirectOpcodes`, a special command a row of `CFG.specialCodes`. -/
inductive CodeRow where
  | level
  | indirect (r : IndirectRow)
  | special (r : SpecialRow)
deriving DecidableEq, Repr

/-- The default tables `CFG.indirectOpcodes` (R122) and `CFG.specialCodes` (R123), with `DirectArcPower` (R150).
PRESUMED (log 7): the numbers are general knowledge that the spec supplies. A configuration may have others. -/
def Code.defaultRow : Code → CodeRow
  | .directArcPower => .level
  | .off => .indirect ⟨0, .null, .null⟩
  | .up => .indirect ⟨1, .null, .null⟩
  | .down => .indirect ⟨2, .null, .null⟩
  | .stepUp => .indirect ⟨3, .null, .null⟩
  | .stepDown => .indirect ⟨4, .null, .null⟩
  | .recallMaxLevel => .indirect ⟨5, .null, .null⟩
  | .recallMinLevel => .indirect ⟨6, .null, .null⟩
  | .stepDownAndOff => .indirect ⟨7, .null, .null⟩
  | .onAndStepUp => .indirect ⟨8, .null, .null⟩
  | .enableDAPCSequence => .indirect ⟨9, .null, .null⟩
  | .goToScene => .indirect ⟨16, .scene, .null⟩
  | .reset => .indirect ⟨32, .null, .null⟩
  | .storeActualLevelInDTR => .indirect ⟨33, .null, .null⟩
  | .storeDTRAsMaxLevel => .indirect ⟨42, .null, .null⟩
  | .storeDTRAsMinLevel => .indirect ⟨43, .null, .null⟩
  | .storeDTRAsSystemFailureLevel => .indirect ⟨44, .null, .null⟩
  | .storeDTRAsPowerOnLevel => .indirect ⟨45, .null, .null⟩
  | .storeDTRAsFadeTime => .indirect ⟨46, .null, .null⟩
  | .storeDTRAsFadeRate => .indirect ⟨47, .null, .null⟩
  | .storeDTRasScene => .indirect ⟨64, .scene, .null⟩
  | .removeScene => .indirect ⟨80, .scene, .null⟩
  | .addToGroup => .indirect ⟨96, .group, .null⟩
  | .removeFromGroup => .indirect ⟨112, .group, .null⟩
  | .storeDTRAsShortAddress => .indirect ⟨128, .null, .null⟩
  | .enableWriteMemory => .indirect ⟨129, .null, .null⟩
  | .queryStatus => .indirect ⟨144, .null, .dataByte⟩
  | .queryControlGear => .indirect ⟨145, .null, .boolean⟩
  | .queryLampFailure => .indirect ⟨146, .null, .boolean⟩
  | .queryLampPowerOn => .indirect ⟨147, .null, .boolean⟩
  | .queryLimitError => .indirect ⟨148, .null, .boolean⟩
  | .queryResetState => .indirect ⟨149, .null, .boolean⟩
  | .queryMissingShortAddress => .indirect ⟨150, .null, .boolean⟩
  | .queryVersionNumber => .indirect ⟨151, .null, .dataByte⟩
  | .queryContentDTR => .indirect ⟨152, .null, .dataByte⟩
  | .queryDeviceType => .indirect ⟨153, .null, .dataByte⟩
  | .queryPhysicalMinimum => .indirect ⟨154, .null, .dataByte⟩
  | .queryPowerFailure => .indirect ⟨155, .null, .boolean⟩
  | .queryContentDTR1 => .indirect ⟨156, .null, .dataByte⟩
  | .queryContentDTR2 => .indirect ⟨157, .null, .dataByte⟩
  | .queryActualLevel => .indirect ⟨160, .null, .dataByte⟩
  | .queryMaxLevel => .indirect ⟨161, .null, .dataByte⟩
  | .queryMinLevel => .indirect ⟨162, .null, .dataByte⟩
  | .queryPowerOnLevel => .indirect ⟨163, .null, .dataByte⟩
  | .querySystemFailureLevel => .indirect ⟨164, .null, .dataByte⟩
  | .queryFadeTimeRate => .indirect ⟨165, .null, .dataByte⟩
  | .querySceneLevel => .indirect ⟨176, .scene, .dataByte⟩
  | .queryGroups0to7 => .indirect ⟨192, .null, .dataByte⟩
  | .queryGroups8to15 => .indirect ⟨193, .null, .dataByte⟩
  | .queryRandomAddressH => .indirect ⟨194, .null, .random⟩
  | .queryRandomAddressM => .indirect ⟨195, .null, .random⟩
  | .queryRandomAddressL => .indirect ⟨196, .null, .random⟩
  | .readMemoryLocation => .indirect ⟨197, .null, .dataByte⟩
  | .extendedVersionNumber => .indirect ⟨255, .null, .dataByteAndFalse⟩
  | .terminate => .special ⟨256, .null, .null⟩
  | .dataTransferRegister => .special ⟨257, .dataByte, .null⟩
  | .initialise => .special ⟨258, .dataByte, .null⟩
  | .randomize => .special ⟨259, .null, .null⟩
  | .compare => .special ⟨260, .null, .boolean⟩
  | .withdraw => .special ⟨261, .null, .null⟩
  | .ping => .special ⟨262, .null, .null⟩
  | .searchAddressH => .special ⟨264, .random, .null⟩
  | .searchAddressM => .special ⟨265, .random, .null⟩
  | .searchAddressL => .special ⟨266, .random, .null⟩
  | .programShortAddress => .special ⟨267, .short, .null⟩
  | .verifyShortAddress => .special ⟨268, .short, .boolean⟩
  | .queryShortAddress => .special ⟨269, .null, .short⟩
  | .physicalSelection => .special ⟨270, .null, .null⟩
  | .enableDeviceOfType => .special ⟨272, .dataByte, .null⟩
  | .setDTR1 => .special ⟨273, .dataByte, .null⟩
  | .setDTR2 => .special ⟨274, .dataByte, .null⟩
  | .writeMemoryLocation => .special ⟨275, .dataByte, .dataByteAndFalse⟩

/-- The row of a code in the tables of a configuration (R122, R123): the row listed for it, else its default row. -/
def Config.row (cfg : Config) (c : Code) : CodeRow :=
  match c.defaultRow with
  | .level => .level
  | .indirect r => .indirect ((cfg.indirectOpcodes.rows.lookup c).getD r)
  | .special r => .special ((cfg.specialCodes.rows.lookup c).getD r)

/-- The number of a code: -1, its opcode, or its place from 256 on (R21). -/
def CodeRow.number : CodeRow → Int
  | .level => -1
  | .indirect r => r.opcode.toNat
  | .special r => r.code

/-- The column "command value type", `DataByte` for `DirectArcPower` (R124). -/
def CodeRow.cmdType : CodeRow → ValueType
  | .level => .dataByte
  | .indirect r => r.cmdType
  | .special r => r.cmdType

/-- The column "response value type", `Null` for `DirectArcPower` (R125). -/
def CodeRow.respType : CodeRow → ValueType
  | .level => .null
  | .indirect r => r.respType
  | .special r => r.respType

/-- The number of a code (R21). -/
def Config.number (cfg : Config) (c : Code) : Int := (cfg.row c).number

/-- `cmdValueType(code)` (R124). -/
def cmdValueType (cfg : Config) (c : Code) : ValueType := (cfg.row c).cmdType

/-- `respValueType(code)` (R125). -/
def respValueType (cfg : Config) (c : Code) : ValueType := (cfg.row c).respType

/-- A special command: a row of `CFG.specialCodes`, a code from 256 on (R21, R123). -/
def Code.isSpecial (c : Code) : Bool :=
  match c.defaultRow with
  | .special _ => true
  | .level | .indirect _ => false

/-- A block command folds a scene or a group into its opcode (R74, R129). -/
def IndirectRow.isBlock (r : IndirectRow) : Bool := r.cmdType == .scene || r.cmdType == .group

/-- The address byte of a special code: `0xA1 + 2*(code-256)` (R123, R129). -/
def specialByte (code : Nat) : Byte := BitVec.ofNat 8 (0xA1 + 2 * (code - 256))

/-- A code on the code port: 10 bits, two's complement (R21). -/
def Config.codePort (cfg : Config) (c : Code) : BitVec 10 := BitVec.ofInt 10 (cfg.number c)

/-- The member a number on the code port names, if any (R21). -/
def Config.codeOf (cfg : Config) (p : BitVec 10) : Option Code := Code.all.find? fun c => cfg.codePort c == p

/-! ## The shape of the tables -/

/-- A response value type is none of `Group` and `Scene` (R125). -/
def respTypeOk (t : ValueType) : Bool := t != .group && t != .scene

/-- The shape of a row (93, section 2): a single opcode, or a block whose base has a zero low nibble (R74); a special code
whose address byte is odd and in 0xA1 to 0xDF. The value types are in the ranges of R124 and R125. -/
def CodeRow.wf : CodeRow → Bool
  | .level => true
  | .indirect r => (r.cmdType == .null || (r.isBlock && r.opcode &&& 0x0F == 0)) && respTypeOk r.respType
  | .special r =>
    decide (256 ≤ r.code) && decide (r.code ≤ 287) &&
    (r.cmdType == .null || r.cmdType == .dataByte || r.cmdType == .random || r.cmdType == .short) && respTypeOk r.respType

/-- Two rows do not overlap: different special codes, different single opcodes, and no opcode in a block that is another row's
(93, section 2). -/
def CodeRow.apart : CodeRow → CodeRow → Bool
  | .indirect r, .indirect r' =>
    if r.isBlock || r'.isBlock then r.opcode &&& 0xF0 != r'.opcode &&& 0xF0 else r.opcode != r'.opcode
  | .special r, .special r' => r.code != r'.code
  | _, _ => true

/-- The cells that the source itself states: the contracts of the six block commands (R122), of the search address and of the
two commands that carry a short address (R123), and the response types R125 quotes. DEDUCED (log 32): no table differs in these. -/
def Config.sourceCells (cfg : Config) : Bool :=
  ([Code.goToScene, .storeDTRasScene, .removeScene, .querySceneLevel].all fun c => cmdValueType cfg c == .scene) &&
  ([Code.addToGroup, .removeFromGroup].all fun c => cmdValueType cfg c == .group) &&
  ([Code.searchAddressH, .searchAddressM, .searchAddressL].all fun c => cmdValueType cfg c == .random) &&
  ([Code.programShortAddress, .verifyShortAddress].all fun c => cmdValueType cfg c == .short) &&
  ([Code.compare, .verifyShortAddress].all fun c => respValueType cfg c == .boolean) &&
  ([Code.extendedVersionNumber, .writeMemoryLocation].all fun c => respValueType cfg c == .dataByteAndFalse) &&
  respValueType cfg .queryShortAddress == .short

/-- `CFG.indirectOpcodes` and `CFG.specialCodes` are tables of the shape of R122 and R123 (93, section 2; log 32). -/
def Config.tablesWf (cfg : Config) : Bool :=
  (Code.all.all fun c => (cfg.row c).wf) &&
  decide ((Code.all.map cfg.row).Pairwise fun r r' => r.apart r' = true) && cfg.sourceCells

/-- Both tables are the default ones (R122, R123). -/
def Config.defaultTables (cfg : Config) : Prop := ∀ c : Code, cfg.row c = c.defaultRow

/-! ## The operand forms -/

/-- `addressByte(a)`: a byte with bit 0 clear (R79). -/
def addressByte : DALIAddress → Byte
  | .short n => n.setWidth 8 <<< 1
  | .group g => 0x80#8 + (g.setWidth 8 <<< 1)
  | .broadcast => 0xFE

/-- `address(descriptor)`: `shortAddress` is looked at first, `groupAddress` next, broadcast otherwise (R120, R384).
DESIGN CHOICE (log 31): the two integers are on 32-bit two's complement ports. -/
def addressOf (shortAddress groupAddress : Option Value) : Except Error DALIAddress :=
  match shortAddress with
  | some n =>
    if n.toInt < 0 ∨ 63 < n.toInt then .error (.validationError (.valueOutOfRange 0 63))
    else .ok (.short (n.setWidth 6))
  | none =>
    match groupAddress with
    | some g =>
      if g.toInt < 0 ∨ 15 < g.toInt then .error (.validationError (.valueOutOfRange 0 15))
      else .ok (.group (g.setWidth 4))
    | none => .ok .broadcast

/-- The value contract (R126): the least and the greatest value of a code that carries one, nothing for a code that carries
none. `Boolean` and `DataByteAndFalse` are never the type of a carried value (R124). -/
def valueRange (cfg : Config) (c : Code) : Option (Nat × Nat) :=
  match cmdValueType cfg c with
  | .null | .boolean | .dataByteAndFalse => none
  | .scene | .group => some (0, 15)
  | .short => some (0, 63)
  | .random => some (0, 255)
  | .dataByte => if c = .directArcPower then some (0, 254) else some (0, 255)

/-- The address in its normal form: none for a special command, broadcast where an addressed command has none (R127). -/
def normalAddress (c : Code) (a : Option DALIAddress) : Option DALIAddress :=
  if c.isSpecial then none else some (a.getD .broadcast)

/-- `construct(code, address?, value?)` (R128): presence of the value first, then its range. -/
def construct (cfg : Config) (c : Code) (a : Option DALIAddress) (v : Option Value) : Except Error DALICommand :=
  match valueRange cfg c, v with
  | none, some _ => .error (.validationError .unexpectedValue)
  | none, none => .ok ⟨c, normalAddress c a, none⟩
  | some _, none => .error (.validationError .missingValue)
  | some (lo, hi), some x =>
    if x.toInt < lo ∨ hi < x.toInt then .error (.validationError (.valueOutOfRange lo hi))
    else .ok ⟨c, normalAddress c a, some (x.setWidth 8)⟩

/-- `construct` on what the caller gives (R128). -/
def CommandDesc.construct (cfg : Config) (d : CommandDesc) : Except Error DALICommand :=
  Sys2Proof.construct cfg d.code d.address d.value

/-- What a caller would give to have this command constructed. -/
def DALICommand.desc (c : DALICommand) : CommandDesc :=
  ⟨c.code, c.address, c.value.map (·.setWidth 32)⟩

/-- The invariant of a `DALICommand` (R23): the value contract and the address normal form hold. -/
def DALICommand.valid (cfg : Config) (c : DALICommand) : Bool := decide (c.desc.construct cfg = .ok c)

/-- `prioHex(p)` as a byte: 00 if absent, above 5 or negative (R286). -/
def priorityByte : Option Value → Byte
  | none => 0
  | some p => if p.toInt < 0 ∨ 5 < p.toInt then 0 else p.setWidth 8

/-- `levelOfFraction(x) = floor(x * 254)` for `x = num/den`, `0 <= x <= 1` (R115; log 24). -/
def levelOfFraction (num den : Nat) : Nat := num * 254 / den

/-- `CFG.confDataHex(itemIndex, itemData)` (R289): the listed entry, else the test default, four characters for an even
index and the low byte's two for an odd one. -/
def Config.confDataHex (cfg : Config) (itemIndex : Byte) (itemData : Word) : ConfHex :=
  match cfg.confLayout.table.lookup (itemIndex, itemData) with
  | some h => h
  | none => if itemIndex.getLsbD 0 then .two (itemData.setWidth 8) else .four itemData

end Sys2Proof
end

