-- ==== Sys2Proof/WellFormed.lean ====
section
/-! DEFINITION. Which configurations meet the constraints of 00_scope R8, and which instructions are well formed under one: a command that `construct` accepts with its address already in normal
form (40_dali_codec_core R126 to R128), a request whose command is such, a response whose fields a frame can report
(47_foxtron_responses R306 to R313). -/

namespace Sys2Proof

/-- The constraints R8 puts on a `CFG`: the four maps are injective, `Send` is 0x01, the settle time is
positive, the two tables have their shape. -/
def Config.wf (cfg : Config) : Bool :=
  decide (RequestType.all.map cfg.reqTypeCode).Nodup &&
  decide (ResponseType.all.map cfg.rspTypeCode).Nodup &&
  decide (AckFlag.all.map cfg.ackFlagCode).Nodup &&
  decide (SpecialMessage.all.map cfg.specCode).Nodup &&
  decide (cfg.reqTypeCode .send = 0x01) &&
  decide (0 < cfg.bootSettleTime) &&
  cfg.tablesWf

/-- The operands of a command are what `construct` accepts (R128) and the address is in its normal form (R127). -/
def commandWf (cfg : Config) (c : Code) (a : Option DALIAddress) (v : Option Value) : Bool :=
  decide (construct cfg c a v = .ok ⟨c, a, v.map (·.setWidth 8)⟩)

/-- The response is one that `decodeResponse` gives for some byte of this code (R271 to R276). -/
def responseFits (cfg : Config) (c : Code) (r : DALIResponse) : Bool :=
  decide (r.valueType = respValueType cfg c) &&
  match respValueType cfg c, r.value with
  | .boolean, .flag _ => true
  | .dataByte, .number _ => true
  | .random, .number _ => true
  | .short, .number n => decide (n.toNat ≤ 63)
  | .dataByteAndFalse, .flag b => !b
  | .dataByteAndFalse, .number n => decide (n ≠ 0)
  | _, _ => false

/-- A report of R306: its command is valid and its response fits the command. -/
def AnswerReport.wf (cfg : Config) : AnswerReport → Bool
  | .noForward => true
  | .noBackward c => c.valid cfg
  | .answered c r => c.valid cfg && responseFits cfg c.code r

/-- A report of R308: its command is valid. -/
def ForwardReport.wf (cfg : Config) : ForwardReport → Bool
  | .noForward => true
  | .forward c => c.valid cfg

/-- Well-formedness of an instruction under a configuration. -/
def Instr.wf (cfg : Config) : Instr → Bool
  | .directArcPower a v => commandWf cfg .directArcPower a v
  | .off a v => commandWf cfg .off a v
  | .up a v => commandWf cfg .up a v
  | .down a v => commandWf cfg .down a v
  | .stepUp a v => commandWf cfg .stepUp a v
  | .stepDown a v => commandWf cfg .stepDown a v
  | .recallMaxLevel a v => commandWf cfg .recallMaxLevel a v
  | .recallMinLevel a v => commandWf cfg .recallMinLevel a v
  | .stepDownAndOff a v => commandWf cfg .stepDownAndOff a v
  | .onAndStepUp a v => commandWf cfg .onAndStepUp a v
  | .enableDAPCSequence a v => commandWf cfg .enableDAPCSequence a v
  | .goToScene a v => commandWf cfg .goToScene a v
  | .reset a v => commandWf cfg .reset a v
  | .storeActualLevelInDTR a v => commandWf cfg .storeActualLevelInDTR a v
  | .storeDTRAsMaxLevel a v => commandWf cfg .storeDTRAsMaxLevel a v
  | .storeDTRAsMinLevel a v => commandWf cfg .storeDTRAsMinLevel a v
  | .storeDTRAsSystemFailureLevel a v => commandWf cfg .storeDTRAsSystemFailureLevel a v
  | .storeDTRAsPowerOnLevel a v => commandWf cfg .storeDTRAsPowerOnLevel a v
  | .storeDTRAsFadeTime a v => commandWf cfg .storeDTRAsFadeTime a v
  | .storeDTRAsFadeRate a v => commandWf cfg .storeDTRAsFadeRate a v
  | .storeDTRasScene a v => commandWf cfg .storeDTRasScene a v
  | .removeScene a v => commandWf cfg .removeScene a v
  | .addToGroup a v => commandWf cfg .addToGroup a v
  | .removeFromGroup a v => commandWf cfg .removeFromGroup a v
  | .storeDTRAsShortAddress a v => commandWf cfg .storeDTRAsShortAddress a v
  | .enableWriteMemory a v => commandWf cfg .enableWriteMemory a v
  | .queryStatus a v => commandWf cfg .queryStatus a v
  | .queryControlGear a v => commandWf cfg .queryControlGear a v
  | .queryLampFailure a v => commandWf cfg .queryLampFailure a v
  | .queryLampPowerOn a v => commandWf cfg .queryLampPowerOn a v
  | .queryLimitError a v => commandWf cfg .queryLimitError a v
  | .queryResetState a v => commandWf cfg .queryResetState a v
  | .queryMissingShortAddress a v => commandWf cfg .queryMissingShortAddress a v
  | .queryVersionNumber a v => commandWf cfg .queryVersionNumber a v
  | .queryContentDTR a v => commandWf cfg .queryContentDTR a v
  | .queryDeviceType a v => commandWf cfg .queryDeviceType a v
  | .queryPhysicalMinimum a v => commandWf cfg .queryPhysicalMinimum a v
  | .queryPowerFailure a v => commandWf cfg .queryPowerFailure a v
  | .queryContentDTR1 a v => commandWf cfg .queryContentDTR1 a v
  | .queryContentDTR2 a v => commandWf cfg .queryContentDTR2 a v
  | .queryActualLevel a v => commandWf cfg .queryActualLevel a v
  | .queryMaxLevel a v => commandWf cfg .queryMaxLevel a v
  | .queryMinLevel a v => commandWf cfg .queryMinLevel a v
  | .queryPowerOnLevel a v => commandWf cfg .queryPowerOnLevel a v
  | .querySystemFailureLevel a v => commandWf cfg .querySystemFailureLevel a v
  | .queryFadeTimeRate a v => commandWf cfg .queryFadeTimeRate a v
  | .querySceneLevel a v => commandWf cfg .querySceneLevel a v
  | .queryGroups0to7 a v => commandWf cfg .queryGroups0to7 a v
  | .queryGroups8to15 a v => commandWf cfg .queryGroups8to15 a v
  | .queryRandomAddressH a v => commandWf cfg .queryRandomAddressH a v
  | .queryRandomAddressM a v => commandWf cfg .queryRandomAddressM a v
  | .queryRandomAddressL a v => commandWf cfg .queryRandomAddressL a v
  | .readMemoryLocation a v => commandWf cfg .readMemoryLocation a v
  | .extendedVersionNumber a v => commandWf cfg .extendedVersionNumber a v
  | .terminate a v => commandWf cfg .terminate a v
  | .dataTransferRegister a v => commandWf cfg .dataTransferRegister a v
  | .initialise a v => commandWf cfg .initialise a v
  | .randomize a v => commandWf cfg .randomize a v
  | .compare a v => commandWf cfg .compare a v
  | .withdraw a v => commandWf cfg .withdraw a v
  | .ping a v => commandWf cfg .ping a v
  | .searchAddressH a v => commandWf cfg .searchAddressH a v
  | .searchAddressM a v => commandWf cfg .searchAddressM a v
  | .searchAddressL a v => commandWf cfg .searchAddressL a v
  | .programShortAddress a v => commandWf cfg .programShortAddress a v
  | .verifyShortAddress a v => commandWf cfg .verifyShortAddress a v
  | .queryShortAddress a v => commandWf cfg .queryShortAddress a v
  | .physicalSelection a v => commandWf cfg .physicalSelection a v
  | .enableDeviceOfType a v => commandWf cfg .enableDeviceOfType a v
  | .setDTR1 a v => commandWf cfg .setDTR1 a v
  | .setDTR2 a v => commandWf cfg .setDTR2 a v
  | .writeMemoryLocation a v => commandWf cfg .writeMemoryLocation a v
  | .send d _ => commandWf cfg d.code d.address d.value
  | .distinctSend d _ _ _ => commandWf cfg d.code d.address d.value
  | .continuousSend d _ _ => commandWf cfg d.code d.address d.value
  | .confQuery _ _ => true
  | .confChange _ _ _ => true
  | .sequenceEnd _ => true
  | .firmwareReset _ => true
  | .response r => r.wf cfg
  | .distinctResponse r => r.wf cfg
  | .noResponse r => r.wf cfg
  | .distinctNoResponse r => r.wf cfg
  | .confResponse _ _ => true
  | .confChangeAck _ _ _ => true
  | .specReceived _ => true
  | .firmwareResetAck => true

end Sys2Proof
end

