-- ==== Sys2Proof/Decode.lean ====
section
/-! DEFINITION. The decoder and, after it, the encoder. Inner encoding: the 16-bit forward word and the response byte
(30_encoding R70 to R82, 40_dali_codec_core R129 to R136, 45_response_decoder R270 to R276). Outer encoding: the ASCII frame
(30_encoding R85 to R106, 46_foxtron_requests R285 to R292, 47_foxtron_responses R305 to R314). -/

namespace Sys2Proof

/-! ## Hex characters and the checksum -/

/-- The uppercase ASCII character of a hex digit (00_scope R10). -/
def hexChar (d : Nibble) : Byte :=
  if d.toNat < 10 then BitVec.ofNat 8 (0x30 + d.toNat) else BitVec.ofNat 8 (0x37 + d.toNat)

/-- The digit of a character `0` to `9` or `A` to `F`; no other character is one, lowercase included (R10, R305). -/
def hexDigit (c : Byte) : Option Nibble :=
  if 0x30 ≤ c.toNat ∧ c.toNat ≤ 0x39 then some (BitVec.ofNat 4 (c.toNat - 0x30))
  else if 0x41 ≤ c.toNat ∧ c.toNat ≤ 0x46 then some (BitVec.ofNat 4 (c.toNat - 0x37))
  else none

/-- `hex2(v)` (R10). -/
def hex2 (b : Byte) : HexString := [b.extractLsb' 4 4, b.extractLsb' 0 4]

/-- `hex4(v)` (R10). -/
def hex4 (w : Word) : HexString := hex2 (w.extractLsb' 8 8) ++ hex2 (w.extractLsb' 0 8)

/-- The values of the consecutive two-character pairs (R86). -/
def bytePairs : HexString → List Byte
  | a :: b :: rest => (a ++ b : BitVec (4 + 4)) :: bytePairs rest
  | _ => []

/-- The payload as the checksum sees it: one `0` digit in front if its length is odd (R86). -/
def padEven (p : HexString) : HexString := if p.length % 2 = 0 then p else 0 :: p

/-- The sum modulo 256 of bytes. -/
def byteSum (bs : List Byte) : Byte := bs.foldr (· + ·) 0

/-- `checksum(p)` (R86). -/
def checksum (p : HexString) : HexString := hex2 (0xFF - byteSum (bytePairs (padEven p)))

/-- A frame: `SOH ++ payload ++ checksum ++ ETB` (R85). -/
def frameOf (p : HexString) : List Byte := soh :: ((p ++ checksum p).map hexChar ++ [etb])

/-- The digit at a byte index of a frame, if there is one. -/
def digitAt (f : List Byte) (i : Nat) : Option Nibble := f[i]?.bind hexDigit

/-- `unhex2(f, i)` (R10). -/
def unhex2 (f : List Byte) (i : Nat) : Except Error Byte :=
  match digitAt f i, digitAt f (i + 1) with
  | some a, some b => .ok (a ++ b : BitVec (4 + 4))
  | _, _ => .error .protocolError

/-- `unhex4(f, i)` (R10). -/
def unhex4 (f : List Byte) (i : Nat) : Except Error Word :=
  match unhex2 f i, unhex2 f (i + 2) with
  | .ok a, .ok b => .ok (a ++ b : BitVec (8 + 8))
  | _, _ => .error .protocolError

/-- `checksumValid(f)` for a frame between `SOH` and `ETB` (R87); false where a character between them is no hex digit
(log 19). -/
def checksumValid (f : List Byte) : Bool :=
  match (f.drop 1).dropLast.mapM hexDigit with
  | none => false
  | some ds => decide (ds.drop (ds.length - 2) = checksum (ds.take (ds.length - 2)))

/-! ## The forward word -/

/-- The address an address byte names, `0nnnnnns`, `100ggggs` or `1111111s` (40 R131); nothing for 0xE0..0xFD (R133). -/
def wordAddress (hi : Byte) : Option DALIAddress :=
  if hi.getLsbD 7 = false then some (.short (hi.extractLsb' 1 6))
  else if hi.extractLsb' 5 3 = 0b100#3 then some (.group (hi.extractLsb' 1 4))
  else if hi.extractLsb' 1 7 = 0b1111111#7 then some .broadcast
  else none

/-- The row is a single opcode, this one (R134). -/
def CodeRow.isSingle (lo : Byte) : CodeRow → Bool
  | .indirect r => !r.isBlock && r.opcode == lo
  | .level | .special _ => false

/-- The row is a block with this base opcode (R134). -/
def CodeRow.isBlockAt (base : Byte) : CodeRow → Bool
  | .indirect r => r.isBlock && r.opcode == base
  | .level | .special _ => false

/-- The row is a special code with this address byte (R135). -/
def CodeRow.isSpecialAt (hi : Byte) : CodeRow → Bool
  | .special r => specialByte r.code == hi
  | .level | .indirect _ => false

/-- The single opcode `lo` names (R134). -/
def singleOpcode (cfg : Config) (lo : Byte) : Option Code := Code.all.find? fun c => (cfg.row c).isSingle lo

/-- The block command with this base opcode (R134). -/
def blockOpcode (cfg : Config) (base : Byte) : Option Code := Code.all.find? fun c => (cfg.row c).isBlockAt base

/-- The special command with this address byte (R135). -/
def specialOf (cfg : Config) (hi : Byte) : Option Code := Code.all.find? fun c => (cfg.row c).isSpecialAt hi

/-- The special half of `fromBytecode` (R135, R136). -/
def decodeSpecial (cfg : Config) (w : Word) (hi lo : Byte) : Except Error DALICommand :=
  if hi.getLsbD 0 = false then .error (.malformedBytecode w)
  else
    match specialOf cfg hi with
    | none => .error (.malformedBytecode w)
    | some c =>
      match cmdValueType cfg c with
      | .null => if lo = 0 then .ok ⟨c, none, none⟩ else .error (.malformedBytecode w)
      | .dataByte | .random => .ok ⟨c, none, some lo⟩
      | .short =>
        if lo.getLsbD 0 = true ∧ lo.getLsbD 7 = false then .ok ⟨c, none, some ((lo.extractLsb' 1 6).setWidth 8)⟩
        else .error (.malformedBytecode w)
      | _ => .error (.malformedBytecode w)

/-- The addressed half of `fromBytecode` (R132, R134). -/
def decodeAddressed (cfg : Config) (w : Word) (a : DALIAddress) (hi lo : Byte) : Except Error DALICommand :=
  if hi.getLsbD 0 = false then
    if lo = 0xFF then .error (.malformedBytecode w) else .ok ⟨.directArcPower, some a, some lo⟩
  else
    match singleOpcode cfg lo with
    | some c => .ok ⟨c, some a, none⟩
    | none =>
      match blockOpcode cfg (lo &&& 0xF0) with
      | some c => .ok ⟨c, some a, some (lo &&& 0x0F)⟩
      | none => .error (.malformedBytecode w)

/-- `fromBytecode(word)` (R130): the top three bits of the address byte first. -/
def fromBytecode (cfg : Config) (w : Word) : Except Error DALICommand :=
  let hi : Byte := w.extractLsb' 8 8
  let lo : Byte := w.extractLsb' 0 8
  if hi.extractLsb' 5 3 = 0b101#3 ∨ hi.extractLsb' 5 3 = 0b110#3 then decodeSpecial cfg w hi lo
  else
    match wordAddress hi with
    | some a => decodeAddressed cfg w a hi lo
    | none => .error (.malformedBytecode w)

/-- A word of an address byte and a data byte (R70). -/
def wordOf (hi lo : Byte) : Word := (hi ++ lo : BitVec (8 + 8))

/-- The low byte of a special command, by the type of the value it carries (R129). -/
def specialLow (t : ValueType) (v : Byte) : Byte :=
  match t with
  | .short => (v <<< 1) ||| 1
  | .dataByte | .random => v
  | .null | .group | .scene | .boolean | .dataByteAndFalse => 0

/-- `toBytecode(command)` (R129). A field that an invalid command lacks counts as broadcast or 0; no valid one lacks it. -/
def toBytecode (cfg : Config) (c : DALICommand) : Word :=
  let a := addressByte (c.address.getD .broadcast)
  let v : Byte := c.value.getD 0
  match cfg.row c.code with
  | .level => wordOf a v
  | .indirect r => wordOf (a ||| 1) (if r.isBlock then r.opcode ||| v else r.opcode)
  | .special r => wordOf (specialByte r.code) (specialLow r.cmdType v)

/-! ## The response byte -/

/-- `decodeResponse(byte, originatingCode)` (R270): one arm per response value type; `Group` and `Scene` never arise and are
treated as `Null` (R277). -/
def decodeResponse (cfg : Config) (b : Byte) (c : Code) : Except Error DALIResponse :=
  match respValueType cfg c with
  | .boolean => .ok ⟨.flag (decide (b ≠ 0)), .boolean⟩
  | .dataByte => .ok ⟨.number b, .dataByte⟩
  | .random => .ok ⟨.number b, .random⟩
  | .short => .ok ⟨.number ((b &&& 0x7E) >>> 1), .short⟩
  | .dataByteAndFalse => .ok ⟨if b = 0 then .flag false else .number b, .dataByteAndFalse⟩
  | .null | .group | .scene => .error .unexpectedResponse

/-! ## Inbound frames -/

/-- The response type of a type code, if any (R305, R314). -/
def rspTypeOf (cfg : Config) (b : Byte) : Option ResponseType := ResponseType.all.find? fun t => cfg.rspTypeCode t == b

/-- The acknowledgement flag of a code, if any (R311). -/
def ackFlagOf (cfg : Config) (b : Byte) : Option AckFlag := AckFlag.all.find? fun t => cfg.ackFlagCode t == b

/-- The special condition of a code, if any (R312). -/
def specOf (cfg : Config) (b : Byte) : Option SpecialMessage := SpecialMessage.all.find? fun t => cfg.specCode t == b

/-- The fields of `Response` and `DistinctResponse`, left to right (R306, R307). -/
def decodeWithResponse (cfg : Config) (f : List Byte) : Except Error AnswerReport := do
  let dataLength ← unhex2 f 3
  if dataLength = 0 then return .noForward
  if dataLength ≠ 16 then throw .protocolError
  let w ← unhex4 f 5
  let cmd ← fromBytecode cfg w
  let responseLength ← unhex2 f 9
  if responseLength = 0 then return .noBackward cmd
  if responseLength ≠ 8 then throw .protocolError
  let rb ← unhex2 f 11
  let rsp ← decodeResponse cfg rb cmd.code
  return .answered cmd rsp

/-- The fields of `NoResponse` and `DistinctNoResponse` (R308, R309). -/
def decodeNoResponse (cfg : Config) (f : List Byte) : Except Error ForwardReport := do
  let dataLength ← unhex2 f 3
  if dataLength = 0 then return .noForward
  if dataLength ≠ 16 then throw .protocolError
  let w ← unhex4 f 5
  let cmd ← fromBytecode cfg w
  return .forward cmd

/-- The fields of `ConfResponse` (R310). -/
def decodeConfResponse (f : List Byte) : Except Error FoxtronResponse := do
  let i ← unhex2 f 3
  let d ← unhex4 f 5
  return .confResponse i d

/-- The fields of `ConfChangeAck` (R311). -/
def decodeConfChangeAck (cfg : Config) (f : List Byte) : Except Error FoxtronResponse := do
  let i ← unhex2 f 3
  let d ← unhex4 f 5
  let k ← unhex2 f 9
  match ackFlagOf cfg k with
  | some flag => return .confChangeAck i d flag
  | none => throw .protocolError

/-- The field of `SpecReceived` (R312). -/
def decodeSpecReceived (cfg : Config) (f : List Byte) : Except Error FoxtronResponse := do
  let k ← unhex2 f 3
  match specOf cfg k with
  | some m => return .specReceived m
  | none => throw .protocolError

/-- The fields of a frame of this type (R305 (5)). -/
def decodeFields (cfg : Config) (f : List Byte) : ResponseType → Except Error FoxtronResponse
  | .response => FoxtronResponse.response <$> decodeWithResponse cfg f
  | .distinctResponse => FoxtronResponse.distinctResponse <$> decodeWithResponse cfg f
  | .noResponse => FoxtronResponse.noResponse <$> decodeNoResponse cfg f
  | .distinctNoResponse => FoxtronResponse.distinctNoResponse <$> decodeNoResponse cfg f
  | .confResponse => decodeConfResponse f
  | .confChangeAck => decodeConfChangeAck cfg f
  | .specReceived => decodeSpecReceived cfg f
  | .firmwareResetAck => .ok .firmwareResetAck

/-- The checks on a chunk before its type is read: its first byte is `SOH`; with `CFG.verifyRxChecksum`, it has 6 bytes, ends
in `ETB` and its checksum is valid (R305 (1), (2)). -/
def frameAccepted (cfg : Config) (f : List Byte) : Bool :=
  decide (f[0]? = some soh) &&
  (!cfg.verifyRxChecksum || (decide (6 ≤ f.length) && decide (f.getLast? = some etb) && checksumValid f))

/-- `frameDecode(f)` (R305). -/
def frameDecode (cfg : Config) (f : List Byte) : Except Error FoxtronResponse := do
  if frameAccepted cfg f = false then throw .protocolError
  let t ← unhex2 f 1
  match rspTypeOf cfg t with
  | some ty => decodeFields cfg f ty
  | none => throw (.unknownResponseType t)

/-! ## Outbound frames -/

/-- The characters of `CFG.confDataHex`'s result (R289). -/
def ConfHex.digits : ConfHex → HexString
  | .two b => hex2 b
  | .four w => hex4 w

/-- The distinct parameter: bit 0 `doubleSend`, bit 1 `sequence` (R91, R287). -/
def distinctParameter (doubleSend sequence : Option Bool) : Byte :=
  (if doubleSend = some true then 1 else 0) ||| (if sequence = some true then 2 else 0)

/-- The fields `Send`, `DistinctSend` and `ContinuousSend` share: priority, the literal `10`, the forward word (R286). -/
def wordFields (cfg : Config) (priority : Option Value) (c : DALICommand) : HexString :=
  hex2 (priorityByte priority) ++ hex2 0x10 ++ hex4 (toBytecode cfg c)

/-- `payload(req)` (R286 to R292). -/
def payload (cfg : Config) : FoxtronRequest → Except Error HexString
  | .send c p => .ok (hex2 (cfg.reqTypeCode .send) ++ wordFields cfg p c)
  | .distinctSend c p d q =>
    .ok (hex2 (cfg.reqTypeCode .distinctSend) ++ wordFields cfg p c ++ hex2 (distinctParameter d q))
  | .continuousSend c p _ => .ok (hex2 (cfg.reqTypeCode .continuousSend) ++ wordFields cfg p c)
  | .confQuery i _ => .ok (hex2 (cfg.reqTypeCode .confQuery) ++ hex2 i)
  | .confChange i d _ => .ok (hex2 (cfg.reqTypeCode .confChange) ++ hex2 i ++ (cfg.confDataHex i d).digits)
  | .sequenceEnd _ => .ok (hex2 (cfg.reqTypeCode .sequenceEnd) ++ hex2 0)
  | .firmwareReset _ => .error .forbiddenOperation

/-- `frameEncode(req)` (R285). -/
def frameEncode (cfg : Config) (req : FoxtronRequest) : Except Error (List Byte) :=
  match payload cfg req with
  | .ok p => .ok (frameOf p)
  | .error e => .error e

/-! ## Instructions -/

/-- The instruction of a command code (R2). -/
def Instr.ofCode (a : Option DALIAddress) (v : Option Value) : Code → Instr
  | .directArcPower => .directArcPower a v
  | .off => .off a v
  | .up => .up a v
  | .down => .down a v
  | .stepUp => .stepUp a v
  | .stepDown => .stepDown a v
  | .recallMaxLevel => .recallMaxLevel a v
  | .recallMinLevel => .recallMinLevel a v
  | .stepDownAndOff => .stepDownAndOff a v
  | .onAndStepUp => .onAndStepUp a v
  | .enableDAPCSequence => .enableDAPCSequence a v
  | .goToScene => .goToScene a v
  | .reset => .reset a v
  | .storeActualLevelInDTR => .storeActualLevelInDTR a v
  | .storeDTRAsMaxLevel => .storeDTRAsMaxLevel a v
  | .storeDTRAsMinLevel => .storeDTRAsMinLevel a v
  | .storeDTRAsSystemFailureLevel => .storeDTRAsSystemFailureLevel a v
  | .storeDTRAsPowerOnLevel => .storeDTRAsPowerOnLevel a v
  | .storeDTRAsFadeTime => .storeDTRAsFadeTime a v
  | .storeDTRAsFadeRate => .storeDTRAsFadeRate a v
  | .storeDTRasScene => .storeDTRasScene a v
  | .removeScene => .removeScene a v
  | .addToGroup => .addToGroup a v
  | .removeFromGroup => .removeFromGroup a v
  | .storeDTRAsShortAddress => .storeDTRAsShortAddress a v
  | .enableWriteMemory => .enableWriteMemory a v
  | .queryStatus => .queryStatus a v
  | .queryControlGear => .queryControlGear a v
  | .queryLampFailure => .queryLampFailure a v
  | .queryLampPowerOn => .queryLampPowerOn a v
  | .queryLimitError => .queryLimitError a v
  | .queryResetState => .queryResetState a v
  | .queryMissingShortAddress => .queryMissingShortAddress a v
  | .queryVersionNumber => .queryVersionNumber a v
  | .queryContentDTR => .queryContentDTR a v
  | .queryDeviceType => .queryDeviceType a v
  | .queryPhysicalMinimum => .queryPhysicalMinimum a v
  | .queryPowerFailure => .queryPowerFailure a v
  | .queryContentDTR1 => .queryContentDTR1 a v
  | .queryContentDTR2 => .queryContentDTR2 a v
  | .queryActualLevel => .queryActualLevel a v
  | .queryMaxLevel => .queryMaxLevel a v
  | .queryMinLevel => .queryMinLevel a v
  | .queryPowerOnLevel => .queryPowerOnLevel a v
  | .querySystemFailureLevel => .querySystemFailureLevel a v
  | .queryFadeTimeRate => .queryFadeTimeRate a v
  | .querySceneLevel => .querySceneLevel a v
  | .queryGroups0to7 => .queryGroups0to7 a v
  | .queryGroups8to15 => .queryGroups8to15 a v
  | .queryRandomAddressH => .queryRandomAddressH a v
  | .queryRandomAddressM => .queryRandomAddressM a v
  | .queryRandomAddressL => .queryRandomAddressL a v
  | .readMemoryLocation => .readMemoryLocation a v
  | .extendedVersionNumber => .extendedVersionNumber a v
  | .terminate => .terminate a v
  | .dataTransferRegister => .dataTransferRegister a v
  | .initialise => .initialise a v
  | .randomize => .randomize a v
  | .compare => .compare a v
  | .withdraw => .withdraw a v
  | .ping => .ping a v
  | .searchAddressH => .searchAddressH a v
  | .searchAddressM => .searchAddressM a v
  | .searchAddressL => .searchAddressL a v
  | .programShortAddress => .programShortAddress a v
  | .verifyShortAddress => .verifyShortAddress a v
  | .queryShortAddress => .queryShortAddress a v
  | .physicalSelection => .physicalSelection a v
  | .enableDeviceOfType => .enableDeviceOfType a v
  | .setDTR1 => .setDTR1 a v
  | .setDTR2 => .setDTR2 a v
  | .writeMemoryLocation => .writeMemoryLocation a v

/-- The instruction of a decoded command. -/
def Instr.ofCommand (c : DALICommand) : Instr := Instr.ofCode c.desc.address c.desc.value c.code

/-- The instruction of a decoded frame. -/
def Instr.ofResponse : FoxtronResponse → Instr
  | .response r => .response r
  | .distinctResponse r => .distinctResponse r
  | .noResponse r => .noResponse r
  | .distinctNoResponse r => .distinctNoResponse r
  | .confResponse i d => .confResponse i d
  | .confChangeAck i d k => .confChangeAck i d k
  | .specReceived m => .specReceived m
  | .firmwareResetAck => .firmwareResetAck

/-- The instruction of a record on the request port: the fields its type needs must be present, the fields no rule reads for
it are dropped (10_state R25; log 13, log 14). -/
def Instr.ofRequest (r : RequestRecord) : Except Reject Instr :=
  match r.type, r.daliCommand, r.itemIndex, r.itemData with
  | .send, some c, _, _ => .ok (.send c r.priority)
  | .distinctSend, some c, _, _ => .ok (.distinctSend c r.priority r.doubleSend r.sequence)
  | .continuousSend, some c, _, _ => .ok (.continuousSend c r.priority r.doubleSend)
  | .confQuery, _, some i, _ => .ok (.confQuery i r.doubleSend)
  | .confChange, _, some i, some d => .ok (.confChange i d r.doubleSend)
  | .sequenceEnd, _, _, _ => .ok (.sequenceEnd r.doubleSend)
  | .firmwareReset, _, _, _ => .ok (.firmwareReset r.doubleSend)
  | .send, none, _, _ | .distinctSend, none, _, _ | .continuousSend, none, _, _ => .error .requestFieldAbsent
  | .confQuery, _, none, _ | .confChange, _, none, _ | .confChange, _, some _, none => .error .requestFieldAbsent

/-- The instruction of a caller's descriptor: the code port, then `address`; the value is `construct`'s to check (R112, R120,
R21). -/
def Instr.ofDescriptor (cfg : Config) (code : BitVec 10) (shortAddress groupAddress value : Option Value) : Except Reject Instr :=
  match cfg.codeOf code with
  | none => .error .codeNotInEnumeration
  | some c =>
    match addressOf shortAddress groupAddress with
    | .ok a => .ok (Instr.ofCode (some a) value c)
    | .error e => .error (.raised e)

/-- The decoder: what is presented, as an instruction or rejected by name. -/
def decode (cfg : Config) : Encoded → Except Reject Instr
  | .word w =>
    match fromBytecode cfg w with
    | .ok c => .ok (Instr.ofCommand c)
    | .error e => .error (.raised e)
  | .descriptor code s g v => Instr.ofDescriptor cfg code s g v
  | .request r => Instr.ofRequest r
  | .chunk f =>
    match frameDecode cfg f with
    | .ok r => .ok (Instr.ofResponse r)
    | .error e => .error (.raised e)

/-- A table word as it is presented: 16 bits are a forward word; any other width is an inbound chunk, its first byte the least
significant, zeros after the bits the table gives (log 20). -/
def tableInput (nbits w : Nat) : Encoded :=
  if nbits = 16 then .word (BitVec.ofNat 16 w)
  else .chunk ((List.range (max 16 (nbits / 8))).map fun k => BitVec.ofNat 8 ((w % 2 ^ nbits) / 2 ^ (8 * k)))

/-- The instruction the decoder reads from a table word; chunks are read with the reset configuration. -/
def decodeTableWord (nbits w : Nat) : Option Instr :=
  match decode profileP0 (tableInput nbits w) with
  | .ok i => some i
  | .error _ => none

/-! ## The encoder -/

/-- A byte that `decodeResponse` reads as this response (R271 to R275; log 18): a true flag as 0xFF, a short address with its
framing bits 0 and 1. -/
def responseByte (r : DALIResponse) : Byte :=
  match r.valueType, r.value with
  | .short, .number n => (n <<< 1) ||| 1
  | _, .number n => n
  | _, .flag b => if b then 0xFF else 0

/-- The payload fields of R97 and R98 after the type. -/
def AnswerReport.fields (cfg : Config) : AnswerReport → HexString
  | .noForward => hex2 0
  | .noBackward c => hex2 0x10 ++ hex4 (toBytecode cfg c) ++ hex2 0
  | .answered c r => hex2 0x10 ++ hex4 (toBytecode cfg c) ++ hex2 0x08 ++ hex2 (responseByte r)

/-- The payload fields of R99 and R100 after the type. -/
def ForwardReport.fields (cfg : Config) : ForwardReport → HexString
  | .noForward => hex2 0
  | .forward c => hex2 0x10 ++ hex4 (toBytecode cfg c)

/-- The frame of a response type with these fields (R85, R97 to R104, R316). -/
def responseFrame (cfg : Config) (t : ResponseType) (fields : HexString) : Encoded :=
  .chunk (frameOf (hex2 (cfg.rspTypeCode t) ++ fields))

/-- The forward word of a command, where `construct` accepts its operands (R128, R129). -/
def encodeCommand (cfg : Config) (c : Code) (a : Option DALIAddress) (v : Option Value) : Option Encoded :=
  match construct cfg c a v with
  | .ok cmd => some (.word (toBytecode cfg cmd))
  | .error _ => none

/-- The record of a request with none of its optional fields. -/
def RequestRecord.bare (t : RequestType) : RequestRecord := ⟨t, none, none, none, none, none, none⟩

/-- The encoder: a command's forward word, a request's record on its port, a response's frame. -/
def encode (cfg : Config) : Instr → Option Encoded
  | .directArcPower a v => encodeCommand cfg .directArcPower a v
  | .off a v => encodeCommand cfg .off a v
  | .up a v => encodeCommand cfg .up a v
  | .down a v => encodeCommand cfg .down a v
  | .stepUp a v => encodeCommand cfg .stepUp a v
  | .stepDown a v => encodeCommand cfg .stepDown a v
  | .recallMaxLevel a v => encodeCommand cfg .recallMaxLevel a v
  | .recallMinLevel a v => encodeCommand cfg .recallMinLevel a v
  | .stepDownAndOff a v => encodeCommand cfg .stepDownAndOff a v
  | .onAndStepUp a v => encodeCommand cfg .onAndStepUp a v
  | .enableDAPCSequence a v => encodeCommand cfg .enableDAPCSequence a v
  | .goToScene a v => encodeCommand cfg .goToScene a v
  | .reset a v => encodeCommand cfg .reset a v
  | .storeActualLevelInDTR a v => encodeCommand cfg .storeActualLevelInDTR a v
  | .storeDTRAsMaxLevel a v => encodeCommand cfg .storeDTRAsMaxLevel a v
  | .storeDTRAsMinLevel a v => encodeCommand cfg .storeDTRAsMinLevel a v
  | .storeDTRAsSystemFailureLevel a v => encodeCommand cfg .storeDTRAsSystemFailureLevel a v
  | .storeDTRAsPowerOnLevel a v => encodeCommand cfg .storeDTRAsPowerOnLevel a v
  | .storeDTRAsFadeTime a v => encodeCommand cfg .storeDTRAsFadeTime a v
  | .storeDTRAsFadeRate a v => encodeCommand cfg .storeDTRAsFadeRate a v
  | .storeDTRasScene a v => encodeCommand cfg .storeDTRasScene a v
  | .removeScene a v => encodeCommand cfg .removeScene a v
  | .addToGroup a v => encodeCommand cfg .addToGroup a v
  | .removeFromGroup a v => encodeCommand cfg .removeFromGroup a v
  | .storeDTRAsShortAddress a v => encodeCommand cfg .storeDTRAsShortAddress a v
  | .enableWriteMemory a v => encodeCommand cfg .enableWriteMemory a v
  | .queryStatus a v => encodeCommand cfg .queryStatus a v
  | .queryControlGear a v => encodeCommand cfg .queryControlGear a v
  | .queryLampFailure a v => encodeCommand cfg .queryLampFailure a v
  | .queryLampPowerOn a v => encodeCommand cfg .queryLampPowerOn a v
  | .queryLimitError a v => encodeCommand cfg .queryLimitError a v
  | .queryResetState a v => encodeCommand cfg .queryResetState a v
  | .queryMissingShortAddress a v => encodeCommand cfg .queryMissingShortAddress a v
  | .queryVersionNumber a v => encodeCommand cfg .queryVersionNumber a v
  | .queryContentDTR a v => encodeCommand cfg .queryContentDTR a v
  | .queryDeviceType a v => encodeCommand cfg .queryDeviceType a v
  | .queryPhysicalMinimum a v => encodeCommand cfg .queryPhysicalMinimum a v
  | .queryPowerFailure a v => encodeCommand cfg .queryPowerFailure a v
  | .queryContentDTR1 a v => encodeCommand cfg .queryContentDTR1 a v
  | .queryContentDTR2 a v => encodeCommand cfg .queryContentDTR2 a v
  | .queryActualLevel a v => encodeCommand cfg .queryActualLevel a v
  | .queryMaxLevel a v => encodeCommand cfg .queryMaxLevel a v
  | .queryMinLevel a v => encodeCommand cfg .queryMinLevel a v
  | .queryPowerOnLevel a v => encodeCommand cfg .queryPowerOnLevel a v
  | .querySystemFailureLevel a v => encodeCommand cfg .querySystemFailureLevel a v
  | .queryFadeTimeRate a v => encodeCommand cfg .queryFadeTimeRate a v
  | .querySceneLevel a v => encodeCommand cfg .querySceneLevel a v
  | .queryGroups0to7 a v => encodeCommand cfg .queryGroups0to7 a v
  | .queryGroups8to15 a v => encodeCommand cfg .queryGroups8to15 a v
  | .queryRandomAddressH a v => encodeCommand cfg .queryRandomAddressH a v
  | .queryRandomAddressM a v => encodeCommand cfg .queryRandomAddressM a v
  | .queryRandomAddressL a v => encodeCommand cfg .queryRandomAddressL a v
  | .readMemoryLocation a v => encodeCommand cfg .readMemoryLocation a v
  | .extendedVersionNumber a v => encodeCommand cfg .extendedVersionNumber a v
  | .terminate a v => encodeCommand cfg .terminate a v
  | .dataTransferRegister a v => encodeCommand cfg .dataTransferRegister a v
  | .initialise a v => encodeCommand cfg .initialise a v
  | .randomize a v => encodeCommand cfg .randomize a v
  | .compare a v => encodeCommand cfg .compare a v
  | .withdraw a v => encodeCommand cfg .withdraw a v
  | .ping a v => encodeCommand cfg .ping a v
  | .searchAddressH a v => encodeCommand cfg .searchAddressH a v
  | .searchAddressM a v => encodeCommand cfg .searchAddressM a v
  | .searchAddressL a v => encodeCommand cfg .searchAddressL a v
  | .programShortAddress a v => encodeCommand cfg .programShortAddress a v
  | .verifyShortAddress a v => encodeCommand cfg .verifyShortAddress a v
  | .queryShortAddress a v => encodeCommand cfg .queryShortAddress a v
  | .physicalSelection a v => encodeCommand cfg .physicalSelection a v
  | .enableDeviceOfType a v => encodeCommand cfg .enableDeviceOfType a v
  | .setDTR1 a v => encodeCommand cfg .setDTR1 a v
  | .setDTR2 a v => encodeCommand cfg .setDTR2 a v
  | .writeMemoryLocation a v => encodeCommand cfg .writeMemoryLocation a v
  | .send c p => some (.request { RequestRecord.bare .send with daliCommand := some c, priority := p })
  | .distinctSend c p d q =>
    some (.request { RequestRecord.bare .distinctSend with
      daliCommand := some c, priority := p, doubleSend := d, sequence := q })
  | .continuousSend c p d =>
    some (.request { RequestRecord.bare .continuousSend with daliCommand := some c, priority := p, doubleSend := d })
  | .confQuery i d => some (.request { RequestRecord.bare .confQuery with itemIndex := some i, doubleSend := d })
  | .confChange i x d =>
    some (.request { RequestRecord.bare .confChange with itemIndex := some i, itemData := some x, doubleSend := d })
  | .sequenceEnd d => some (.request { RequestRecord.bare .sequenceEnd with doubleSend := d })
  | .firmwareReset d => some (.request { RequestRecord.bare .firmwareReset with doubleSend := d })
  | .response r => some (responseFrame cfg .response (r.fields cfg))
  | .distinctResponse r => some (responseFrame cfg .distinctResponse (r.fields cfg))
  | .noResponse r => some (responseFrame cfg .noResponse (r.fields cfg))
  | .distinctNoResponse r => some (responseFrame cfg .distinctNoResponse (r.fields cfg))
  | .confResponse i d => some (responseFrame cfg .confResponse (hex2 i ++ hex4 d))
  | .confChangeAck i d k => some (responseFrame cfg .confChangeAck (hex2 i ++ hex4 d ++ hex2 (cfg.ackFlagCode k)))
  | .specReceived m => some (responseFrame cfg .specReceived (hex2 (cfg.specCode m)))
  | .firmwareResetAck => some (responseFrame cfg .firmwareResetAck [])

end Sys2Proof
end

