-- ==== Sys2Proof/Machine/State.lean ====
section
/-! DEFINITION. The state of one engine instance (10_state R27 to R39), the ports' inputs and outputs, the fault and refusal
types, and the state after construction. State is plain data. -/

namespace Sys2Proof.Machine

/-- `S.session` (10_state R28). -/
inductive Session where
  | waitingForBoot | running | destroyed
deriving DecidableEq, Repr

/-- `S.seq.phase` when it is not `Idle` (10_state R31). -/
inductive SeqPhase where
  | h | m | l
deriving DecidableEq, Repr

/-- The in-flight slot while `S.inflight.valid` is true (10_state R27). The completion is its number (log 10). -/
structure InFlight where
  request : FoxtronRequest
  remainingEchoes : Nat
  completion : Nat
deriving DecidableEq, Repr

/-- The search-address sequencer while `S.seq.phase` is not `Idle` (10_state R31). -/
structure Sequencer where
  phase : SeqPhase
  value : BitVec 24
  results : List FoxtronResponse
  completion : Nat
deriving DecidableEq, Repr

/-- The persistent state `S` of the engine, field by field (10_state R36). `inflight` is `none` where `S.inflight.valid` is
false, `seq` is `none` where `S.seq.phase` is `Idle`: the other fields then hold no value (R27, R31; log 11). -/
structure Engine where
  session : Session
  transportOpen : Bool
  bootTimerArmed : Bool
  openEmitted : Bool
  dtrAsserted : Bool
  inflight : Option InFlight
  seq : Option Sequencer
deriving DecidableEq, Repr

/-- What a completion fires with when it is resolved: the response of a request, nothing for a plain `Send` (48 R333), the
three responses of a `setSearchAddress` (48 R345). -/
inductive Resolution where
  | response (r : FoxtronResponse)
  | nothing
  | responses (rs : List FoxtronResponse)
deriving DecidableEq, Repr

/-- The events the engine emits (60_exceptions R382). The transport's error is a number that stands for it (log 16). -/
inductive Event where
  | sessionOpen
  | sessionClosed (error : Option Nat)
  | evResponse (r : FoxtronResponse)
  | evNoResponse (r : FoxtronResponse)
  | evSpecReceived (r : FoxtronResponse)
  | evConfResponse (r : FoxtronResponse)
  | evConfChangeAck (r : FoxtronResponse)
  | evFirmwareResetAck (r : FoxtronResponse)
  | evAnyResponse (r : FoxtronResponse)
  | rxError (e : Error) (chunk : List Byte)
deriving DecidableEq, Repr

/-- What a pure operation returns (60_exceptions R402). -/
inductive CodecResult where
  | address (a : DALIAddress)
  | command (c : DALICommand)
  | word (w : Word)
  | valueType (t : ValueType)
  | response (r : DALIResponse)
  | frame (f : List Byte)
  | foxtron (r : FoxtronResponse)
  | hex (p : HexString)
  | level (n : Nat)
deriving DecidableEq, Repr

/-- What the block's ports strobe (00_scope R5, R11; 60_exceptions R382, R385, R386, R395 to R402): a frame handed to the
transport, the modem-control line, the settle timer, the transport's `close`; a completion handed to the caller, resolved or
rejected; an error on the caller's error port; an event; the `isOpen` output; a pure operation's result. -/
inductive Output where
  | tx (frame : List Byte)
  | setLine (dtr : Bool)
  | startTimer (duration : Nat)
  | closeTransport
  | returned (completion : Nat)
  | resolve (completion : Nat) (r : Resolution)
  | reject (completion : Nat) (e : Error)
  | raised (e : Error)
  | event (e : Event)
  | isOpen (b : Bool)
  | result (r : CodecResult)
deriving DecidableEq, Repr

/-- The pure operations of the caller's interface (60_exceptions R402; `levelOfFraction`, 30_encoding R115). DESIGN CHOICE
(log 33): `toBytecode` and `frameEncode` carry a command as the caller describes it, not yet constructed. -/
inductive CodecOp where
  | address (shortAddress groupAddress : Option Value)
  | construct (d : CommandDesc)
  | toBytecode (d : CommandDesc)
  | fromBytecode (w : Word)
  | cmdValueType (c : Code)
  | respValueType (c : Code)
  | decodeResponse (b : Byte) (c : Code)
  | frameEncode (r : RequestRecord)
  | frameDecode (f : List Byte)
  | checksum (p : HexString)
  | levelOfFraction (num den : Nat)
deriving DecidableEq, Repr

/-- One step presented from outside (48_master_engine, step table; 60_exceptions R381, R402): an instruction in its encoding, a
notification of the transport, the timer's expiry, an operation of the caller. -/
inductive Input where
  | present (e : Encoded)
  | transportOpen
  | transportClose (error : Option Nat)
  | timerExpiry
  | reset
  | close
  | isOpen
  | setSearchAddress (v : BitVec 24)
  | codec (op : CodecOp)
deriving DecidableEq, Repr

/-- The machine. `cfg` is the configuration, fixed at construction (log 3); `eng` is the spec's `S`; the other three fields are
the model's own: the number of the next new completion (log 10), the steps presented and not yet taken (log 1), everything the
ports have strobed, oldest first (log 9). -/
structure State where
  cfg : Config
  eng : Engine
  nextCompletion : Nat
  inputs : List Input
  outputs : List Output
deriving DecidableEq, Repr

/-- The engine state after construction with a `CFG`, field by field (10_state R39). -/
def Engine.construct (cfg : Config) : Engine where
  session := if cfg.bootMethod = .noBoot then .running else .waitingForBoot
  transportOpen := false
  bootTimerArmed := false
  openEmitted := false
  dtrAsserted := false
  inflight := none
  seq := none

/-- The machine after construction with a `CFG` (10_state R39, 70_reset_and_hazards R410): nothing presented, nothing strobed. -/
def State.construct (cfg : Config) : State where
  cfg := cfg
  eng := Engine.construct cfg
  nextCompletion := 1
  inputs := []
  outputs := []

/-- The machine right after reset, which is construction (R39), with the configuration of `Machine/Profile.lean` (log 4, log 5). -/
def State.reset : State := State.construct profileP0

/-- Faults. There is none: an error ends its operation and is delivered on a port, and no error or closed session stops the block
("they do not crash the engine", 60_exceptions R380, R385, R387). Safe: nothing the spec lets go on is stopped (log 28). -/
inductive Fault : Type
deriving DecidableEq, Repr

/-- Refusals. -/
inductive Refusal where
  /-- `exec`, for an instruction with no meaning yet. Safe: nothing is claimed of it. -/
  | notModelled (mnemonic : String)
  /-- The fetch: a descriptor whose code is no member of the closed enumeration, which "cannot be presented" (10_state R21, 93 G19).
  Safe: the machine stops where the spec has no step. -/
  | codeNotInEnumeration
  /-- The fetch: a request without a field its type needs, which "cannot be presented" (10_state R25, 93 G19). Safe: as above. -/
  | requestFieldAbsent
deriving DecidableEq, Repr

end Sys2Proof.Machine
end

