-- ==== Sys2Proof/Machine/Flags.lean ====
section
/-! DEFINITION. The predicates and flags: `usable` (10_state R34), `correlated` (48_master_engine R331), the double-send flag
(R332), idle (70 R415), and the optional fields of a `FoxtronResponse` with its flags `framingError` and `setConfigAckFlag`
(10_state R26, R35; 47_foxtron_responses R315). The block has no condition codes. -/

namespace Sys2Proof

/-- The type of a request (10_state R25). -/
def FoxtronRequest.type : FoxtronRequest → RequestType
  | .send _ _ => .send
  | .distinctSend _ _ _ _ => .distinctSend
  | .continuousSend _ _ _ => .continuousSend
  | .confQuery _ _ => .confQuery
  | .confChange _ _ _ => .confChange
  | .sequenceEnd _ => .sequenceEnd
  | .firmwareReset _ => .firmwareReset

/-- `correlated(t)` (48 R331): every type but `Send`. -/
def RequestType.correlated : RequestType → Bool
  | .send => false
  | .distinctSend | .confQuery | .confChange | .sequenceEnd | .continuousSend | .firmwareReset => true

/-- `req.doubleSend` as the engine reads it, absent counting as false (48 R332). -/
def FoxtronRequest.doubled : FoxtronRequest → Bool
  | .send _ _ => false
  | .distinctSend _ _ d _ => d.getD false
  | .continuousSend _ _ d => d.getD false
  | .confQuery _ d => d.getD false
  | .confChange _ _ d => d.getD false
  | .sequenceEnd d => d.getD false
  | .firmwareReset d => d.getD false

/-- A bare command as a request: `DistinctSend`, priority 0, no double-send, no sequence flag (30 R113, 48 R330). -/
def bareRequest (c : DALICommand) : FoxtronRequest := .distinctSend c (some 0) (some false) (some false)

/-- The type of a response (10_state R26). -/
def FoxtronResponse.type : FoxtronResponse → ResponseType
  | .response _ => .response
  | .distinctResponse _ => .distinctResponse
  | .noResponse _ => .noResponse
  | .distinctNoResponse _ => .distinctNoResponse
  | .confResponse _ _ => .confResponse
  | .confChangeAck _ _ _ => .confChangeAck
  | .specReceived _ => .specReceived
  | .firmwareResetAck => .firmwareResetAck

/-- The command an answer report carries (R306). -/
def AnswerReport.command : AnswerReport → Option DALICommand
  | .noForward => none
  | .noBackward c => some c
  | .answered c _ => some c

/-- The response an answer report carries (R306). -/
def AnswerReport.answer : AnswerReport → Option DALIResponse
  | .noForward => none
  | .noBackward _ => none
  | .answered _ r => some r

/-- `framingError` of an answer report: a length field is 0 (10_state R35, R306). -/
def AnswerReport.framingError : AnswerReport → Bool
  | .noForward => true
  | .noBackward _ => true
  | .answered _ _ => false

/-- The command a forward report carries (R308). -/
def ForwardReport.command : ForwardReport → Option DALICommand
  | .noForward => none
  | .forward c => some c

/-- `framingError` of a forward report: the data length is 0 (10_state R35, R308). -/
def ForwardReport.framingError : ForwardReport → Bool
  | .noForward => true
  | .forward _ => false

/-- The field `daliCommand` (R26, R315). -/
def FoxtronResponse.daliCommand : FoxtronResponse → Option DALICommand
  | .response r | .distinctResponse r => r.command
  | .noResponse r | .distinctNoResponse r => r.command
  | .confResponse _ _ | .confChangeAck _ _ _ | .specReceived _ | .firmwareResetAck => none

/-- The field `daliResponse` (R26, R315). -/
def FoxtronResponse.daliResponse : FoxtronResponse → Option DALIResponse
  | .response r | .distinctResponse r => r.answer
  | .noResponse _ | .distinctNoResponse _ => none
  | .confResponse _ _ | .confChangeAck _ _ _ | .specReceived _ | .firmwareResetAck => none

/-- The field `framingError`, absent for the types that report no forward frame (R26, R315). -/
def FoxtronResponse.framingError : FoxtronResponse → Option Bool
  | .response r | .distinctResponse r => some r.framingError
  | .noResponse r | .distinctNoResponse r => some r.framingError
  | .confResponse _ _ | .confChangeAck _ _ _ | .specReceived _ | .firmwareResetAck => none

/-- The field `itemIndex` (R26, R315). -/
def FoxtronResponse.itemIndex : FoxtronResponse → Option Byte
  | .confResponse i _ | .confChangeAck i _ _ => some i
  | .response _ | .distinctResponse _ | .noResponse _ | .distinctNoResponse _ | .specReceived _ | .firmwareResetAck => none

/-- The field `itemData` (R26, R315). -/
def FoxtronResponse.itemData : FoxtronResponse → Option Word
  | .confResponse _ d | .confChangeAck _ d _ => some d
  | .response _ | .distinctResponse _ | .noResponse _ | .distinctNoResponse _ | .specReceived _ | .firmwareResetAck => none

/-- The field `setConfigAckFlag` (R26, R35, R315). -/
def FoxtronResponse.setConfigAckFlag : FoxtronResponse → Option AckFlag
  | .confChangeAck _ _ k => some k
  | .response _ | .distinctResponse _ | .noResponse _ | .distinctNoResponse _ => none
  | .confResponse _ _ | .specReceived _ | .firmwareResetAck => none

/-- The field `specialMessage` (R26, R315). -/
def FoxtronResponse.specialMessage : FoxtronResponse → Option SpecialMessage
  | .specReceived m => some m
  | .response _ | .distinctResponse _ | .noResponse _ | .distinctNoResponse _ => none
  | .confResponse _ _ | .confChangeAck _ _ _ | .firmwareResetAck => none

/-- The synthetic response of an unusable session (48 R330). -/
def channelNotOpenResponse : FoxtronResponse := .specReceived .channelNotOpen

namespace Machine

/-- `usable`, which is the engine's `isOpen` output (10_state R34). -/
def Engine.usable (e : Engine) : Bool := e.transportOpen && decide (e.session = .running)

/-- `S.inflight.valid` (10_state R27). -/
def Engine.inflightValid (e : Engine) : Bool := e.inflight.isSome

/-- The engine is idle (70 R415). -/
def Engine.idle (e : Engine) : Bool := e.inflight.isNone && e.seq.isNone

end Machine

end Sys2Proof
end

