-- ==== Sys2Proof/Machine/Ops.lean ====
section
/-! DEFINITION. The named operations over the state: one per port or field the steps write (00_scope R11), and taking an
exception (60_exceptions R385). There is no memory and no register file, so there is no memory operation. -/

namespace Sys2Proof.Machine

/-- Strobe a port: the output is appended, oldest first. -/
def State.emit (s : State) (o : Output) : State := { s with outputs := s.outputs ++ [o] }

/-- The state after a new completion was made; its number is `s.nextCompletion` (R11; log 10). -/
def State.newCompletion (s : State) : State := { s with nextCompletion := s.nextCompletion + 1 }

/-- Write the in-flight slot (10_state R27). -/
def State.setInflight (s : State) (f : Option InFlight) : State := { s with eng := { s.eng with inflight := f } }

/-- Write the sequencer (10_state R31). -/
def State.setSeq (s : State) (q : Option Sequencer) : State := { s with eng := { s.eng with seq := q } }

/-- Write `S.session` (10_state R28). -/
def State.setSession (s : State) (x : Session) : State := { s with eng := { s.eng with session := x } }

/-- Write `S.transportOpen` (10_state R29). -/
def State.setTransportOpen (s : State) (b : Bool) : State := { s with eng := { s.eng with transportOpen := b } }

/-- Write `S.bootTimerArmed` (10_state R30). -/
def State.setBootTimerArmed (s : State) (b : Bool) : State := { s with eng := { s.eng with bootTimerArmed := b } }

/-- Write `S.openEmitted` (10_state R30). -/
def State.setOpenEmitted (s : State) (b : Bool) : State := { s with eng := { s.eng with openEmitted := b } }

/-- Write `S.dtrAsserted` (10_state R32). -/
def State.setDtrAsserted (s : State) (b : Bool) : State := { s with eng := { s.eng with dtrAsserted := b } }

/-- The state once its first input has been taken. -/
def State.setInputs (s : State) (xs : List Input) : State := { s with inputs := xs }

/-- TAKING AN EXCEPTION (60_exceptions R385, "the analog of trap entry"): the operation ends, the error and its information
stand on the caller's error port, nothing is saved, no mode changes, nothing is masked, and the engine state is what the
operation had written (R383). There is no return from it (R387): the next operation is accepted at once; a slot it left
taken is freed by `cancelInflight`. -/
def State.raiseError (s : State) (e : Error) : State := s.emit (.raised e)

/-- `resolve(c, r)` (R11, 60_exceptions R386). -/
def State.resolve (s : State) (c : Nat) (r : Resolution) : State := s.emit (.resolve c r)

/-- `reject(c, E)` (R11, 60_exceptions R386). -/
def State.reject (s : State) (c : Nat) (e : Error) : State := s.emit (.reject c e)

/-- `TX(f)`: one call of the transport's `send` with the whole frame (20_memory R54, 60_exceptions R395; log 21). -/
def State.tx (s : State) (f : List Byte) : State := s.emit (.tx f)

/-- `emit Ev(p)` (R11, 60_exceptions R382). -/
def State.event (s : State) (e : Event) : State := s.emit (.event e)

/-- Hand a completion to the caller, which is what `return c` does (48 R334, R345). -/
def State.giveBack (s : State) (c : Nat) : State := s.emit (.returned c)

end Sys2Proof.Machine
end

