-- ==== Sys2Proof/Machine/Engine.lean ====
section
/-! DEFINITION. The Master Engine (48_master_engine): `sendCmd`, routing of inbound frames, the session steps, `reset`, `close`,
`isOpen` and the search-address sequencer. Each is one atomic step. -/

namespace Sys2Proof.Machine

/-! ## sendCmd -/

/-- How a `sendCmd` ended: it raised, or it returned a completion that has already fired or is pending (48 R334). -/
inductive Sent where
  | raised (e : Error)
  | fired (completion : Nat) (r : Option FoxtronResponse)
  | pending (completion : Nat)
deriving DecidableEq, Repr

/-- Action (1): an unusable session answers with the synthetic response (48 R330). -/
def sendUnusable (s : State) : Sent × State :=
  (.fired s.nextCompletion (some channelNotOpenResponse),
    s.newCompletion.resolve s.nextCompletion (.response channelNotOpenResponse))

/-- Action (3) on a free slot: the request is registered with its echo count and a new completion (48 R332). -/
def register (req : FoxtronRequest) (s : State) : State :=
  s.newCompletion.setInflight (some ⟨req, if req.doubled then 2 else 1, s.nextCompletion⟩)

/-- Actions (3) to (5) for a correlated type; a refusal of the encoder leaves the slot taken (48 R332 to R334, 60 R383). -/
def sendCorrelated (req : FoxtronRequest) (s : State) : Sent × State :=
  if s.eng.inflightValid then (.raised .requestAlreadyInFlight, s)
  else
    match frameEncode s.cfg req with
    | .error e => (.raised e, register req s)
    | .ok f => (.pending s.nextCompletion, (register req s).tx f)

/-- Actions (4) and (5) for `Send`: the completion fires in the same step with no response (48 R333). -/
def sendUncorrelated (req : FoxtronRequest) (s : State) : Sent × State :=
  match frameEncode s.cfg req with
  | .error e => (.raised e, s)
  | .ok f => (.fired s.nextCompletion none, (s.tx f).newCompletion.resolve s.nextCompletion .nothing)

/-- `sendCmd(req)` (48 R334): usable, then in-flight, then encode and transmit. -/
def sendCmd (req : FoxtronRequest) (s : State) : Sent × State :=
  if !s.eng.usable then sendUnusable s
  else if req.type.correlated then sendCorrelated req s
  else sendUncorrelated req s

/-- A `sendCmd` of the caller: its error goes to the caller's error port, its completion to the caller (48 R334, 60 R385). -/
def callSendCmd (req : FoxtronRequest) (s : State) : State :=
  match sendCmd req s with
  | (.raised e, s') => s'.raiseError e
  | (.fired c _, s') => s'.giveBack c
  | (.pending c, s') => s'.giveBack c

/-! ## The search-address sequencer -/

/-- The command of a phase: one byte of the 24-bit value, most significant first (48 R345, 30 R110). -/
def searchCommand (p : SeqPhase) (v : BitVec 24) : DALICommand :=
  match p with
  | .h => ⟨.searchAddressH, none, some (v.extractLsb' 16 8)⟩
  | .m => ⟨.searchAddressM, none, some (v.extractLsb' 8 8)⟩
  | .l => ⟨.searchAddressL, none, some (v.extractLsb' 0 8)⟩

/-- `seqAbort(E)` (48 R347): the results gathered are discarded and the caller's completion is rejected. -/
def seqAbort (e : Error) (s : State) : State :=
  match s.eng.seq with
  | none => s
  | some q => (s.setSeq none).reject q.completion e

/-- The last arm of `seqContinue` (48 R346): the caller's completion is resolved with the responses in order. -/
def seqFinish (s : State) : State :=
  match s.eng.seq with
  | none => s
  | some q => (s.setSeq none).resolve q.completion (.responses q.results)

/-- Record a response and go to a phase (48 R346). -/
def seqAdvance (p : SeqPhase) (r : FoxtronResponse) (s : State) : State :=
  match s.eng.seq with
  | none => s
  | some q => s.setSeq (some { q with phase := p, results := q.results ++ [r] })

/-- `seqIssue` (48 R345) in the phase the sequencer is in, with what follows a response that has already fired. -/
def seqIssue (next : FoxtronResponse → State → State) (s : State) : State :=
  match s.eng.seq with
  | none => s
  | some q =>
    match sendCmd (bareRequest (searchCommand q.phase q.value)) s with
    | (.raised e, s') => seqAbort e s'
    | (.fired _ (some r), s') => next r s'
    | (.fired _ none, s') => s'
    | (.pending _, s') => s'

/-- `seqContinue(r)` in phase `L` (48 R346). -/
def seqContinueL (r : FoxtronResponse) (s : State) : State := seqFinish (seqAdvance .l r s)

/-- `seqContinue(r)` in phase `M` (48 R346). -/
def seqContinueM (r : FoxtronResponse) (s : State) : State := seqIssue seqContinueL (seqAdvance .l r s)

/-- `seqContinue(r)` in phase `H` (48 R346). -/
def seqContinueH (r : FoxtronResponse) (s : State) : State := seqIssue seqContinueM (seqAdvance .m r s)

/-- `seqContinue(r)` (48 R346), where the sequencer is active. -/
def seqContinue (r : FoxtronResponse) (s : State) : State :=
  match s.eng.seq with
  | none => s
  | some q =>
    match q.phase with
    | .h => seqContinueH r s
    | .m => seqContinueM r s
    | .l => seqContinueL r s

/-- `setSearchAddress(v)` (48 R345). -/
def setSearchAddress (v : BitVec 24) (s : State) : State :=
  if s.eng.seq.isSome then s.raiseError .requestAlreadyInFlight
  else
    (seqIssue seqContinueH (s.newCompletion.setSeq (some ⟨.h, v, [], s.nextCompletion⟩))).giveBack s.nextCompletion

/-! ## Inbound routing -/

/-- Routing of `DistinctResponse` and `DistinctNoResponse` (48 R336): dropped with no request in flight, held while echoes
remain, else the completion fires and the sequencer, if it is active, goes on (R346; log 25). -/
def distinctRoute (r : FoxtronResponse) (s : State) : State :=
  match s.eng.inflight with
  | none => s
  | some f =>
    if 0 < f.remainingEchoes - 1 then s.setInflight (some { f with remainingEchoes := f.remainingEchoes - 1 })
    else seqContinue r ((s.setInflight none).resolve f.completion (.response r))

/-- Routing of every other type (48 R338): the typed event, then the catch-all. -/
def unsolicitedRoute (ev : FoxtronResponse → Event) (r : FoxtronResponse) (s : State) : State :=
  (s.event (ev r)).event (.evAnyResponse r)

/-- An inbound chunk that does not decode (48 R335): the error and the chunk on the `RxError` port, no state change. -/
def rxError (e : Error) (f : List Byte) (s : State) : State := s.event (.rxError e f)

/-! ## Session steps -/

/-- `emit SessionOpen` unless it was emitted before (48 R340, R341). -/
def announceOpen (s : State) : State :=
  if s.eng.openEmitted then s else (s.setOpenEmitted true).event .sessionOpen

/-- Arm and start the boot-settle timer (48 R340, 60 R391). -/
def startBootTimer (s : State) : State := (s.setBootTimerArmed true).emit (.startTimer s.cfg.bootSettleTime)

/-- `transportOpen()` (48 R340). -/
def transportOpen (s : State) : State :=
  if s.eng.session = .destroyed ∨ s.eng.transportOpen = true then s
  else
    match s.cfg.bootMethod with
    | .noBoot =>
      if s.cfg.emitOpenWithoutBoot then announceOpen (s.setTransportOpen true) else s.setTransportOpen true
    | .waitOnly => startBootTimer (s.setTransportOpen true)
    | .setDTR => startBootTimer (((s.setTransportOpen true).emit (.setLine true)).setDtrAsserted true)

/-- `timerExpiry()` (48 R341). -/
def timerExpiry (s : State) : State :=
  if s.eng.bootTimerArmed = false then s
  else announceOpen ((s.setBootTimerArmed false).setSession .running)

/-- What `reset()` and `transportClose` do to the request in flight (48 R342, R343): it is rejected with `Cancelled`, the slot is
freed, and the sequencer, if it is active, is aborted. -/
def cancelInflight (s : State) : State :=
  match s.eng.inflight with
  | none => s
  | some f => seqAbort .cancelled ((s.setInflight none).reject f.completion .cancelled)

/-- `transportClose(err?)` (48 R342). -/
def transportClose (err : Option Nat) (s : State) : State :=
  if s.eng.session = .destroyed then s
  else
    (cancelInflight (((s.setSession .destroyed).setTransportOpen false).setBootTimerArmed false)).event (.sessionClosed err)

/-- `reset()` (48 R343), the recovery from a stuck transaction (60 R387). -/
def resetRequest (s : State) : State := cancelInflight s

/-- `close()` (48 R344): the transport's `close`, no engine state. -/
def closeSession (s : State) : State := s.emit .closeTransport

/-- `isOpen` (48 R344): the output is `usable`. -/
def queryOpen (s : State) : State := s.emit (.isOpen s.eng.usable)

/-! ## What the instructions of a family share -/

/-- A DALI command presented by the caller: `construct`, then `sendCmd` of the bare command (40 R128, 48 R330; log 15). -/
def runCommand (c : Code) (a : Option DALIAddress) (v : Option Value) (s : State) : State :=
  match construct s.cfg c a v with
  | .error e => s.raiseError e
  | .ok cmd => callSendCmd (bareRequest cmd) s

/-- A request that carries a command: `construct`, then `sendCmd` of the request (40 R128, 48 R334; log 15). -/
def runCommandRequest (d : CommandDesc) (req : DALICommand → FoxtronRequest) (s : State) : State :=
  match d.construct s.cfg with
  | .error e => s.raiseError e
  | .ok cmd => callSendCmd (req cmd) s

end Sys2Proof.Machine
end

