-- ==== Sys2Proof/Machine/Configuration.lean ====
section
/-! DEFINITION. The meanings of the configuration, scene and group commands (42_dali_config R170 to R183). The codec is stateless; what a command does to the engine is
`sendCmd` of the bare command (30_encoding R113, 48_master_engine R330 to R334), after `construct` has accepted its operands
(40_dali_codec_core R128). Each rule's format, value contract and response type are the command's row of the
configuration's tables (`Config.row`); those named below are the default tables'. -/

namespace Sys2Proof.Machine

/-- `Reset` (R170): code 32, format `IND`, no value, answered by `Null`. -/
def execReset (a : Option DALIAddress) (v : Option Value) (s : State) : Host.Outcome State Fault Refusal :=
  .next (runCommand .reset a v s)

/-- `StoreActualLevelInDTR` (R171): code 33, format `IND`, no value, answered by `Null`. -/
def execStoreActualLevelInDTR (a : Option DALIAddress) (v : Option Value) (s : State) : Host.Outcome State Fault Refusal :=
  .next (runCommand .storeActualLevelInDTR a v s)

/-- `StoreDTRAsMaxLevel` (R172): code 42, format `IND`, no value, answered by `Null`. -/
def execStoreDTRAsMaxLevel (a : Option DALIAddress) (v : Option Value) (s : State) : Host.Outcome State Fault Refusal :=
  .next (runCommand .storeDTRAsMaxLevel a v s)

/-- `StoreDTRAsMinLevel` (R173): code 43, format `IND`, no value, answered by `Null`. -/
def execStoreDTRAsMinLevel (a : Option DALIAddress) (v : Option Value) (s : State) : Host.Outcome State Fault Refusal :=
  .next (runCommand .storeDTRAsMinLevel a v s)

/-- `StoreDTRAsSystemFailureLevel` (R174): code 44, format `IND`, no value, answered by `Null`. -/
def execStoreDTRAsSystemFailureLevel (a : Option DALIAddress) (v : Option Value) (s : State) : Host.Outcome State Fault Refusal :=
  .next (runCommand .storeDTRAsSystemFailureLevel a v s)

/-- `StoreDTRAsPowerOnLevel` (R175): code 45, format `IND`, no value, answered by `Null`. -/
def execStoreDTRAsPowerOnLevel (a : Option DALIAddress) (v : Option Value) (s : State) : Host.Outcome State Fault Refusal :=
  .next (runCommand .storeDTRAsPowerOnLevel a v s)

/-- `StoreDTRAsFadeTime` (R176): code 46, format `IND`, no value, answered by `Null`. -/
def execStoreDTRAsFadeTime (a : Option DALIAddress) (v : Option Value) (s : State) : Host.Outcome State Fault Refusal :=
  .next (runCommand .storeDTRAsFadeTime a v s)

/-- `StoreDTRAsFadeRate` (R177): code 47, format `IND`, no value, answered by `Null`. -/
def execStoreDTRAsFadeRate (a : Option DALIAddress) (v : Option Value) (s : State) : Host.Outcome State Fault Refusal :=
  .next (runCommand .storeDTRAsFadeRate a v s)

/-- `StoreDTRasScene` (R178): code 64, format `IND16`, a scene number 0..15, answered by `Null`. -/
def execStoreDTRasScene (a : Option DALIAddress) (v : Option Value) (s : State) : Host.Outcome State Fault Refusal :=
  .next (runCommand .storeDTRasScene a v s)

/-- `RemoveScene` (R179): code 80, format `IND16`, a scene number 0..15, answered by `Null`. -/
def execRemoveScene (a : Option DALIAddress) (v : Option Value) (s : State) : Host.Outcome State Fault Refusal :=
  .next (runCommand .removeScene a v s)

/-- `AddToGroup` (R180): code 96, format `IND16`, a group number 0..15, answered by `Null`. -/
def execAddToGroup (a : Option DALIAddress) (v : Option Value) (s : State) : Host.Outcome State Fault Refusal :=
  .next (runCommand .addToGroup a v s)

/-- `RemoveFromGroup` (R181): code 112, format `IND16`, a group number 0..15, answered by `Null`. -/
def execRemoveFromGroup (a : Option DALIAddress) (v : Option Value) (s : State) : Host.Outcome State Fault Refusal :=
  .next (runCommand .removeFromGroup a v s)

/-- `StoreDTRAsShortAddress` (R182): code 128, format `IND`, no value, answered by `Null`. -/
def execStoreDTRAsShortAddress (a : Option DALIAddress) (v : Option Value) (s : State) : Host.Outcome State Fault Refusal :=
  .next (runCommand .storeDTRAsShortAddress a v s)

/-- `EnableWriteMemory` (R183): code 129, format `IND`, no value, answered by `Null`. -/
def execEnableWriteMemory (a : Option DALIAddress) (v : Option Value) (s : State) : Host.Outcome State Fault Refusal :=
  .next (runCommand .enableWriteMemory a v s)

end Sys2Proof.Machine
end

