-- ==== Sys2Proof/Machine/Level.lean ====
section
/-! DEFINITION. The meanings of the level commands (41_dali_level R150 to R161). The codec is stateless; what a command does to the engine is
`sendCmd` of the bare command (30_encoding R113, 48_master_engine R330 to R334), after `construct` has accepted its operands
(40_dali_codec_core R128). Each rule's format, value contract and response type are the command's row of the
configuration's tables (`Config.row`); those named below are the default tables'. -/

namespace Sys2Proof.Machine

/-- `DirectArcPower` (R150): code -1, format `DAPC`, a level 0..254, answered by `Null`. -/
def execDirectArcPower (a : Option DALIAddress) (v : Option Value) (s : State) : Host.Outcome State Fault Refusal :=
  .next (runCommand .directArcPower a v s)

/-- `Off` (R151): code 0, format `IND`, no value, answered by `Null`. -/
def execOff (a : Option DALIAddress) (v : Option Value) (s : State) : Host.Outcome State Fault Refusal :=
  .next (runCommand .off a v s)

/-- `Up` (R152): code 1, format `IND`, no value, answered by `Null`. -/
def execUp (a : Option DALIAddress) (v : Option Value) (s : State) : Host.Outcome State Fault Refusal :=
  .next (runCommand .up a v s)

/-- `Down` (R153): code 2, format `IND`, no value, answered by `Null`. -/
def execDown (a : Option DALIAddress) (v : Option Value) (s : State) : Host.Outcome State Fault Refusal :=
  .next (runCommand .down a v s)

/-- `StepUp` (R154): code 3, format `IND`, no value, answered by `Null`. -/
def execStepUp (a : Option DALIAddress) (v : Option Value) (s : State) : Host.Outcome State Fault Refusal :=
  .next (runCommand .stepUp a v s)

/-- `StepDown` (R155): code 4, format `IND`, no value, answered by `Null`. -/
def execStepDown (a : Option DALIAddress) (v : Option Value) (s : State) : Host.Outcome State Fault Refusal :=
  .next (runCommand .stepDown a v s)

/-- `RecallMaxLevel` (R156): code 5, format `IND`, no value, answered by `Null`. -/
def execRecallMaxLevel (a : Option DALIAddress) (v : Option Value) (s : State) : Host.Outcome State Fault Refusal :=
  .next (runCommand .recallMaxLevel a v s)

/-- `RecallMinLevel` (R157): code 6, format `IND`, no value, answered by `Null`. -/
def execRecallMinLevel (a : Option DALIAddress) (v : Option Value) (s : State) : Host.Outcome State Fault Refusal :=
  .next (runCommand .recallMinLevel a v s)

/-- `StepDownAndOff` (R158): code 7, format `IND`, no value, answered by `Null`. -/
def execStepDownAndOff (a : Option DALIAddress) (v : Option Value) (s : State) : Host.Outcome State Fault Refusal :=
  .next (runCommand .stepDownAndOff a v s)

/-- `OnAndStepUp` (R159): code 8, format `IND`, no value, answered by `Null`. -/
def execOnAndStepUp (a : Option DALIAddress) (v : Option Value) (s : State) : Host.Outcome State Fault Refusal :=
  .next (runCommand .onAndStepUp a v s)

/-- `EnableDAPCSequence` (R160): code 9, format `IND`, no value, answered by `Null`. -/
def execEnableDAPCSequence (a : Option DALIAddress) (v : Option Value) (s : State) : Host.Outcome State Fault Refusal :=
  .next (runCommand .enableDAPCSequence a v s)

/-- `GoToScene` (R161): code 16, format `IND16`, a scene number 0..15, answered by `Null`. -/
def execGoToScene (a : Option DALIAddress) (v : Option Value) (s : State) : Host.Outcome State Fault Refusal :=
  .next (runCommand .goToScene a v s)

end Sys2Proof.Machine
end

