-- ==== Sys2Proof/Machine/Query.lean ====
section
/-! DEFINITION. The meanings of the query commands (43_dali_queries R200 to R227). The codec is stateless; what a command does to the engine is
`sendCmd` of the bare command (30_encoding R113, 48_master_engine R330 to R334), after `construct` has accepted its operands
(40_dali_codec_core R128). Each rule's format, value contract and response type are the command's row of the
configuration's tables (`Config.row`); those named below are the default tables'. -/

namespace Sys2Proof.Machine

/-- `QueryStatus` (R200): code 144, format `IND`, no value, answered by `DataByte`. -/
def execQueryStatus (a : Option DALIAddress) (v : Option Value) (s : State) : Host.Outcome State Fault Refusal :=
  .next (runCommand .queryStatus a v s)

/-- `QueryControlGear` (R201): code 145, format `IND`, no value, answered by `Boolean`. -/
def execQueryControlGear (a : Option DALIAddress) (v : Option Value) (s : State) : Host.Outcome State Fault Refusal :=
  .next (runCommand .queryControlGear a v s)

/-- `QueryLampFailure` (R202): code 146, format `IND`, no value, answered by `Boolean`. -/
def execQueryLampFailure (a : Option DALIAddress) (v : Option Value) (s : State) : Host.Outcome State Fault Refusal :=
  .next (runCommand .queryLampFailure a v s)

/-- `QueryLampPowerOn` (R203): code 147, format `IND`, no value, answered by `Boolean`. -/
def execQueryLampPowerOn (a : Option DALIAddress) (v : Option Value) (s : State) : Host.Outcome State Fault Refusal :=
  .next (runCommand .queryLampPowerOn a v s)

/-- `QueryLimitError` (R204): code 148, format `IND`, no value, answered by `Boolean`. -/
def execQueryLimitError (a : Option DALIAddress) (v : Option Value) (s : State) : Host.Outcome State Fault Refusal :=
  .next (runCommand .queryLimitError a v s)

/-- `QueryResetState` (R205): code 149, format `IND`, no value, answered by `Boolean`. -/
def execQueryResetState (a : Option DALIAddress) (v : Option Value) (s : State) : Host.Outcome State Fault Refusal :=
  .next (runCommand .queryResetState a v s)

/-- `QueryMissingShortAddress` (R206): code 150, format `IND`, no value, answered by `Boolean`. -/
def execQueryMissingShortAddress (a : Option DALIAddress) (v : Option Value) (s : State) : Host.Outcome State Fault Refusal :=
  .next (runCommand .queryMissingShortAddress a v s)

/-- `QueryVersionNumber` (R207): code 151, format `IND`, no value, answered by `DataByte`. -/
def execQueryVersionNumber (a : Option DALIAddress) (v : Option Value) (s : State) : Host.Outcome State Fault Refusal :=
  .next (runCommand .queryVersionNumber a v s)

/-- `QueryContentDTR` (R208): code 152, format `IND`, no value, answered by `DataByte`. -/
def execQueryContentDTR (a : Option DALIAddress) (v : Option Value) (s : State) : Host.Outcome State Fault Refusal :=
  .next (runCommand .queryContentDTR a v s)

/-- `QueryDeviceType` (R209): code 153, format `IND`, no value, answered by `DataByte`. -/
def execQueryDeviceType (a : Option DALIAddress) (v : Option Value) (s : State) : Host.Outcome State Fault Refusal :=
  .next (runCommand .queryDeviceType a v s)

/-- `QueryPhysicalMinimum` (R210): code 154, format `IND`, no value, answered by `DataByte`. -/
def execQueryPhysicalMinimum (a : Option DALIAddress) (v : Option Value) (s : State) : Host.Outcome State Fault Refusal :=
  .next (runCommand .queryPhysicalMinimum a v s)

/-- `QueryPowerFailure` (R211): code 155, format `IND`, no value, answered by `Boolean`. -/
def execQueryPowerFailure (a : Option DALIAddress) (v : Option Value) (s : State) : Host.Outcome State Fault Refusal :=
  .next (runCommand .queryPowerFailure a v s)

/-- `QueryContentDTR1` (R212): code 156, format `IND`, no value, answered by `DataByte`. -/
def execQueryContentDTR1 (a : Option DALIAddress) (v : Option Value) (s : State) : Host.Outcome State Fault Refusal :=
  .next (runCommand .queryContentDTR1 a v s)

/-- `QueryContentDTR2` (R213): code 157, format `IND`, no value, answered by `DataByte`. -/
def execQueryContentDTR2 (a : Option DALIAddress) (v : Option Value) (s : State) : Host.Outcome State Fault Refusal :=
  .next (runCommand .queryContentDTR2 a v s)

/-- `QueryActualLevel` (R214): code 160, format `IND`, no value, answered by `DataByte`. -/
def execQueryActualLevel (a : Option DALIAddress) (v : Option Value) (s : State) : Host.Outcome State Fault Refusal :=
  .next (runCommand .queryActualLevel a v s)

/-- `QueryMaxLevel` (R215): code 161, format `IND`, no value, answered by `DataByte`. -/
def execQueryMaxLevel (a : Option DALIAddress) (v : Option Value) (s : State) : Host.Outcome State Fault Refusal :=
  .next (runCommand .queryMaxLevel a v s)

/-- `QueryMinLevel` (R216): code 162, format `IND`, no value, answered by `DataByte`. -/
def execQueryMinLevel (a : Option DALIAddress) (v : Option Value) (s : State) : Host.Outcome State Fault Refusal :=
  .next (runCommand .queryMinLevel a v s)

/-- `QueryPowerOnLevel` (R217): code 163, format `IND`, no value, answered by `DataByte`. -/
def execQueryPowerOnLevel (a : Option DALIAddress) (v : Option Value) (s : State) : Host.Outcome State Fault Refusal :=
  .next (runCommand .queryPowerOnLevel a v s)

/-- `QuerySystemFailureLevel` (R218): code 164, format `IND`, no value, answered by `DataByte`. -/
def execQuerySystemFailureLevel (a : Option DALIAddress) (v : Option Value) (s : State) : Host.Outcome State Fault Refusal :=
  .next (runCommand .querySystemFailureLevel a v s)

/-- `QueryFadeTimeRate` (R219): code 165, format `IND`, no value, answered by `DataByte`. -/
def execQueryFadeTimeRate (a : Option DALIAddress) (v : Option Value) (s : State) : Host.Outcome State Fault Refusal :=
  .next (runCommand .queryFadeTimeRate a v s)

/-- `QuerySceneLevel` (R220): code 176, format `IND16`, a scene number 0..15, answered by `DataByte`. -/
def execQuerySceneLevel (a : Option DALIAddress) (v : Option Value) (s : State) : Host.Outcome State Fault Refusal :=
  .next (runCommand .querySceneLevel a v s)

/-- `QueryGroups0to7` (R221): code 192, format `IND`, no value, answered by `DataByte`. -/
def execQueryGroups0to7 (a : Option DALIAddress) (v : Option Value) (s : State) : Host.Outcome State Fault Refusal :=
  .next (runCommand .queryGroups0to7 a v s)

/-- `QueryGroups8to15` (R222): code 193, format `IND`, no value, answered by `DataByte`. -/
def execQueryGroups8to15 (a : Option DALIAddress) (v : Option Value) (s : State) : Host.Outcome State Fault Refusal :=
  .next (runCommand .queryGroups8to15 a v s)

/-- `QueryRandomAddressH` (R223): code 194, format `IND`, no value, answered by `Random`. -/
def execQueryRandomAddressH (a : Option DALIAddress) (v : Option Value) (s : State) : Host.Outcome State Fault Refusal :=
  .next (runCommand .queryRandomAddressH a v s)

/-- `QueryRandomAddressM` (R224): code 195, format `IND`, no value, answered by `Random`. -/
def execQueryRandomAddressM (a : Option DALIAddress) (v : Option Value) (s : State) : Host.Outcome State Fault Refusal :=
  .next (runCommand .queryRandomAddressM a v s)

/-- `QueryRandomAddressL` (R225): code 196, format `IND`, no value, answered by `Random`. -/
def execQueryRandomAddressL (a : Option DALIAddress) (v : Option Value) (s : State) : Host.Outcome State Fault Refusal :=
  .next (runCommand .queryRandomAddressL a v s)

/-- `ReadMemoryLocation` (R226): code 197, format `IND`, no value, answered by `DataByte`. -/
def execReadMemoryLocation (a : Option DALIAddress) (v : Option Value) (s : State) : Host.Outcome State Fault Refusal :=
  .next (runCommand .readMemoryLocation a v s)

/-- `ExtendedVersionNumber` (R227): code 255, format `IND`, no value, answered by `DataByteAndFalse`. -/
def execExtendedVersionNumber (a : Option DALIAddress) (v : Option Value) (s : State) : Host.Outcome State Fault Refusal :=
  .next (runCommand .extendedVersionNumber a v s)

end Sys2Proof.Machine
end

