-- ==== Sys2Proof/Machine/Request.lean ====
section
/-! DEFINITION. The meanings of the seven requests (46_foxtron_requests R286 to R292): `sendCmd` of the request
(48_master_engine R330 to R334). A request that carries a command has it constructed first (40_dali_codec_core R128). -/

namespace Sys2Proof.Machine

/-- `Send` (R286): uncorrelated; transmitted, and its completion fires in the same step (48 R333). -/
def execSend (d : CommandDesc) (p : Option Value) (s : State) : Host.Outcome State Fault Refusal :=
  .next (runCommandRequest d (fun c => .send c p) s)

/-- `DistinctSend` (R287): correlated; the frame carries the distinct parameter. -/
def execDistinctSend (d : CommandDesc) (p : Option Value) (ds q : Option Bool) (s : State) :
    Host.Outcome State Fault Refusal :=
  .next (runCommandRequest d (fun c => .distinctSend c p ds q) s)

/-- `ContinuousSend` (R291): correlated; `doubleSend` sets the echo count and is not encoded. -/
def execContinuousSend (d : CommandDesc) (p : Option Value) (ds : Option Bool) (s : State) :
    Host.Outcome State Fault Refusal :=
  .next (runCommandRequest d (fun c => .continuousSend c p ds) s)

/-- `ConfQuery` (R288): correlated; asks the adapter for a configuration item. -/
def execConfQuery (i : Byte) (ds : Option Bool) (s : State) : Host.Outcome State Fault Refusal :=
  .next (callSendCmd (.confQuery i ds) s)

/-- `ConfChange` (R289): correlated; gives the adapter a configuration item's data. -/
def execConfChange (i : Byte) (x : Word) (ds : Option Bool) (s : State) : Host.Outcome State Fault Refusal :=
  .next (callSendCmd (.confChange i x ds) s)

/-- `SequenceEnd` (R290): correlated. -/
def execSequenceEnd (ds : Option Bool) (s : State) : Host.Outcome State Fault Refusal :=
  .next (callSendCmd (.sequenceEnd ds) s)

/-- `FirmwareReset` (R292): correlated; the encoder refuses it with `ForbiddenOperation`, on a usable idle engine after the slot
was taken (48 R334, 60 R383). -/
def execFirmwareReset (ds : Option Bool) (s : State) : Host.Outcome State Fault Refusal :=
  .next (callSendCmd (.firmwareReset ds) s)

end Sys2Proof.Machine
end

