-- ==== Sys2Proof/Machine/Response.lean ====
section
/-! DEFINITION. The meanings of the eight responses (47_foxtron_responses R306 to R313): the routing of a decoded inbound frame
(48_master_engine R335 to R339). -/

namespace Sys2Proof.Machine

/-- `Response` (R306): an event (48 R338). -/
def execResponse (r : AnswerReport) (s : State) : Host.Outcome State Fault Refusal :=
  .next (unsolicitedRoute .evResponse (.response r) s)

/-- `DistinctResponse` (R307): an echo of the request in flight (48 R336). -/
def execDistinctResponse (r : AnswerReport) (s : State) : Host.Outcome State Fault Refusal :=
  .next (distinctRoute (.distinctResponse r) s)

/-- `NoResponse` (R308): an event (48 R338). -/
def execNoResponse (r : ForwardReport) (s : State) : Host.Outcome State Fault Refusal :=
  .next (unsolicitedRoute .evNoResponse (.noResponse r) s)

/-- `DistinctNoResponse` (R309): an echo of the request in flight (48 R336). -/
def execDistinctNoResponse (r : ForwardReport) (s : State) : Host.Outcome State Fault Refusal :=
  .next (distinctRoute (.distinctNoResponse r) s)

/-- `ConfResponse` (R310): an event (48 R338). -/
def execConfResponse (i : Byte) (d : Word) (s : State) : Host.Outcome State Fault Refusal :=
  .next (unsolicitedRoute .evConfResponse (.confResponse i d) s)

/-- `ConfChangeAck` (R311): an event (48 R338). -/
def execConfChangeAck (i : Byte) (d : Word) (k : AckFlag) (s : State) : Host.Outcome State Fault Refusal :=
  .next (unsolicitedRoute .evConfChangeAck (.confChangeAck i d k) s)

/-- `SpecReceived` (R312): an event, also where it reports `ChannelNotOpen` (48 R338, 60 R379). -/
def execSpecReceived (m : SpecialMessage) (s : State) : Host.Outcome State Fault Refusal :=
  .next (unsolicitedRoute .evSpecReceived (.specReceived m) s)

/-- `FirmwareResetAck` (R313): an event (48 R338). -/
def execFirmwareResetAck (s : State) : Host.Outcome State Fault Refusal :=
  .next (unsolicitedRoute .evFirmwareResetAck .firmwareResetAck s)

end Sys2Proof.Machine
end

