-- ==== Sys2Proof/Machine/Special.lean ====
section
/-! DEFINITION. The meanings of the special (commissioning) commands (44_dali_special R240 to R257). The codec is stateless; what a command does to the engine is
`sendCmd` of the bare command (30_encoding R113, 48_master_engine R330 to R334), after `construct` has accepted its operands
(40_dali_codec_core R128). Each rule's format, value contract and response type are the command's row of the
configuration's tables (`Config.row`); those named below are the default tables'. -/

namespace Sys2Proof.Machine

/-- `Terminate` (R240): code 256, format `SPC-N`, no value, answered by `Null`. -/
def execTerminate (a : Option DALIAddress) (v : Option Value) (s : State) : Host.Outcome State Fault Refusal :=
  .next (runCommand .terminate a v s)

/-- `DataTransferRegister` (R241): code 257, format `SPC-D`, a data byte 0..255, answered by `Null`. -/
def execDataTransferRegister (a : Option DALIAddress) (v : Option Value) (s : State) : Host.Outcome State Fault Refusal :=
  .next (runCommand .dataTransferRegister a v s)

/-- `Initialize` (R242): code 258, format `SPC-D`, a data byte 0..255, answered by `Null`. -/
def execInitialise (a : Option DALIAddress) (v : Option Value) (s : State) : Host.Outcome State Fault Refusal :=
  .next (runCommand .initialise a v s)

/-- `Randomize` (R243): code 259, format `SPC-N`, no value, answered by `Null`. -/
def execRandomize (a : Option DALIAddress) (v : Option Value) (s : State) : Host.Outcome State Fault Refusal :=
  .next (runCommand .randomize a v s)

/-- `Compare` (R244): code 260, format `SPC-N`, no value, answered by `Boolean`. -/
def execCompare (a : Option DALIAddress) (v : Option Value) (s : State) : Host.Outcome State Fault Refusal :=
  .next (runCommand .compare a v s)

/-- `Withdraw` (R245): code 261, format `SPC-N`, no value, answered by `Null`. -/
def execWithdraw (a : Option DALIAddress) (v : Option Value) (s : State) : Host.Outcome State Fault Refusal :=
  .next (runCommand .withdraw a v s)

/-- `Ping` (R246): code 262, format `SPC-N`, no value, answered by `Null`. -/
def execPing (a : Option DALIAddress) (v : Option Value) (s : State) : Host.Outcome State Fault Refusal :=
  .next (runCommand .ping a v s)

/-- `SearchAddressH` (R247): code 264, format `SPC-D`, one byte of the search address 0..255, answered by `Null`. -/
def execSearchAddressH (a : Option DALIAddress) (v : Option Value) (s : State) : Host.Outcome State Fault Refusal :=
  .next (runCommand .searchAddressH a v s)

/-- `SearchAddressM` (R248): code 265, format `SPC-D`, one byte of the search address 0..255, answered by `Null`. -/
def execSearchAddressM (a : Option DALIAddress) (v : Option Value) (s : State) : Host.Outcome State Fault Refusal :=
  .next (runCommand .searchAddressM a v s)

/-- `SearchAddressL` (R249): code 266, format `SPC-D`, one byte of the search address 0..255, answered by `Null`. -/
def execSearchAddressL (a : Option DALIAddress) (v : Option Value) (s : State) : Host.Outcome State Fault Refusal :=
  .next (runCommand .searchAddressL a v s)

/-- `ProgramShortAddress` (R250): code 267, format `SPC-A`, a short address 0..63, answered by `Null`. -/
def execProgramShortAddress (a : Option DALIAddress) (v : Option Value) (s : State) : Host.Outcome State Fault Refusal :=
  .next (runCommand .programShortAddress a v s)

/-- `VerifyShortAddress` (R251): code 268, format `SPC-A`, a short address 0..63, answered by `Boolean`. -/
def execVerifyShortAddress (a : Option DALIAddress) (v : Option Value) (s : State) : Host.Outcome State Fault Refusal :=
  .next (runCommand .verifyShortAddress a v s)

/-- `QueryShortAddress` (R252): code 269, format `SPC-N`, no value, answered by `Short`. -/
def execQueryShortAddress (a : Option DALIAddress) (v : Option Value) (s : State) : Host.Outcome State Fault Refusal :=
  .next (runCommand .queryShortAddress a v s)

/-- `PhysicalSelection` (R253): code 270, format `SPC-N`, no value, answered by `Null`. -/
def execPhysicalSelection (a : Option DALIAddress) (v : Option Value) (s : State) : Host.Outcome State Fault Refusal :=
  .next (runCommand .physicalSelection a v s)

/-- `EnableDeviceOfType` (R254): code 272, format `SPC-D`, a data byte 0..255, answered by `Null`. -/
def execEnableDeviceOfType (a : Option DALIAddress) (v : Option Value) (s : State) : Host.Outcome State Fault Refusal :=
  .next (runCommand .enableDeviceOfType a v s)

/-- `SetDTR1` (R255): code 273, format `SPC-D`, a data byte 0..255, answered by `Null`. -/
def execSetDTR1 (a : Option DALIAddress) (v : Option Value) (s : State) : Host.Outcome State Fault Refusal :=
  .next (runCommand .setDTR1 a v s)

/-- `SetDTR2` (R256): code 274, format `SPC-D`, a data byte 0..255, answered by `Null`. -/
def execSetDTR2 (a : Option DALIAddress) (v : Option Value) (s : State) : Host.Outcome State Fault Refusal :=
  .next (runCommand .setDTR2 a v s)

/-- `WriteMemoryLocation` (R257): code 275, format `SPC-D`, a data byte 0..255, answered by `DataByteAndFalse`. -/
def execWriteMemoryLocation (a : Option DALIAddress) (v : Option Value) (s : State) : Host.Outcome State Fault Refusal :=
  .next (runCommand .writeMemoryLocation a v s)

end Sys2Proof.Machine
end

