-- ==== Sys2Proof/Machine/Dispatch.lean ====
section
/-! DEFINITION. One arm per instruction. -/

namespace Sys2Proof.Machine

def exec (i : Instr) (s : State) : Host.Outcome State Fault Refusal :=
  match i with
  | .directArcPower a v => Sys2Proof.Machine.execDirectArcPower a v s
  | .off a v => Sys2Proof.Machine.execOff a v s
  | .up a v => Sys2Proof.Machine.execUp a v s
  | .down a v => Sys2Proof.Machine.execDown a v s
  | .stepUp a v => Sys2Proof.Machine.execStepUp a v s
  | .stepDown a v => Sys2Proof.Machine.execStepDown a v s
  | .recallMaxLevel a v => Sys2Proof.Machine.execRecallMaxLevel a v s
  | .recallMinLevel a v => Sys2Proof.Machine.execRecallMinLevel a v s
  | .stepDownAndOff a v => Sys2Proof.Machine.execStepDownAndOff a v s
  | .onAndStepUp a v => Sys2Proof.Machine.execOnAndStepUp a v s
  | .enableDAPCSequence a v => Sys2Proof.Machine.execEnableDAPCSequence a v s
  | .goToScene a v => Sys2Proof.Machine.execGoToScene a v s
  | .reset a v => Sys2Proof.Machine.execReset a v s
  | .storeActualLevelInDTR a v => Sys2Proof.Machine.execStoreActualLevelInDTR a v s
  | .storeDTRAsMaxLevel a v => Sys2Proof.Machine.execStoreDTRAsMaxLevel a v s
  | .storeDTRAsMinLevel a v => Sys2Proof.Machine.execStoreDTRAsMinLevel a v s
  | .storeDTRAsSystemFailureLevel a v => Sys2Proof.Machine.execStoreDTRAsSystemFailureLevel a v s
  | .storeDTRAsPowerOnLevel a v => Sys2Proof.Machine.execStoreDTRAsPowerOnLevel a v s
  | .storeDTRAsFadeTime a v => Sys2Proof.Machine.execStoreDTRAsFadeTime a v s
  | .storeDTRAsFadeRate a v => Sys2Proof.Machine.execStoreDTRAsFadeRate a v s
  | .storeDTRasScene a v => Sys2Proof.Machine.execStoreDTRasScene a v s
  | .removeScene a v => Sys2Proof.Machine.execRemoveScene a v s
  | .addToGroup a v => Sys2Proof.Machine.execAddToGroup a v s
  | .removeFromGroup a v => Sys2Proof.Machine.execRemoveFromGroup a v s
  | .storeDTRAsShortAddress a v => Sys2Proof.Machine.execStoreDTRAsShortAddress a v s
  | .enableWriteMemory a v => Sys2Proof.Machine.execEnableWriteMemory a v s
  | .queryStatus a v => Sys2Proof.Machine.execQueryStatus a v s
  | .queryControlGear a v => Sys2Proof.Machine.execQueryControlGear a v s
  | .queryLampFailure a v => Sys2Proof.Machine.execQueryLampFailure a v s
  | .queryLampPowerOn a v => Sys2Proof.Machine.execQueryLampPowerOn a v s
  | .queryLimitError a v => Sys2Proof.Machine.execQueryLimitError a v s
  | .queryResetState a v => Sys2Proof.Machine.execQueryResetState a v s
  | .queryMissingShortAddress a v => Sys2Proof.Machine.execQueryMissingShortAddress a v s
  | .queryVersionNumber a v => Sys2Proof.Machine.execQueryVersionNumber a v s
  | .queryContentDTR a v => Sys2Proof.Machine.execQueryContentDTR a v s
  | .queryDeviceType a v => Sys2Proof.Machine.execQueryDeviceType a v s
  | .queryPhysicalMinimum a v => Sys2Proof.Machine.execQueryPhysicalMinimum a v s
  | .queryPowerFailure a v => Sys2Proof.Machine.execQueryPowerFailure a v s
  | .queryContentDTR1 a v => Sys2Proof.Machine.execQueryContentDTR1 a v s
  | .queryContentDTR2 a v => Sys2Proof.Machine.execQueryContentDTR2 a v s
  | .queryActualLevel a v => Sys2Proof.Machine.execQueryActualLevel a v s
  | .queryMaxLevel a v => Sys2Proof.Machine.execQueryMaxLevel a v s
  | .queryMinLevel a v => Sys2Proof.Machine.execQueryMinLevel a v s
  | .queryPowerOnLevel a v => Sys2Proof.Machine.execQueryPowerOnLevel a v s
  | .querySystemFailureLevel a v => Sys2Proof.Machine.execQuerySystemFailureLevel a v s
  | .queryFadeTimeRate a v => Sys2Proof.Machine.execQueryFadeTimeRate a v s
  | .querySceneLevel a v => Sys2Proof.Machine.execQuerySceneLevel a v s
  | .queryGroups0to7 a v => Sys2Proof.Machine.execQueryGroups0to7 a v s
  | .queryGroups8to15 a v => Sys2Proof.Machine.execQueryGroups8to15 a v s
  | .queryRandomAddressH a v => Sys2Proof.Machine.execQueryRandomAddressH a v s
  | .queryRandomAddressM a v => Sys2Proof.Machine.execQueryRandomAddressM a v s
  | .queryRandomAddressL a v => Sys2Proof.Machine.execQueryRandomAddressL a v s
  | .readMemoryLocation a v => Sys2Proof.Machine.execReadMemoryLocation a v s
  | .extendedVersionNumber a v => Sys2Proof.Machine.execExtendedVersionNumber a v s
  | .terminate a v => Sys2Proof.Machine.execTerminate a v s
  | .dataTransferRegister a v => Sys2Proof.Machine.execDataTransferRegister a v s
  | .initialise a v => Sys2Proof.Machine.execInitialise a v s
  | .randomize a v => Sys2Proof.Machine.execRandomize a v s
  | .compare a v => Sys2Proof.Machine.execCompare a v s
  | .withdraw a v => Sys2Proof.Machine.execWithdraw a v s
  | .ping a v => Sys2Proof.Machine.execPing a v s
  | .searchAddressH a v => Sys2Proof.Machine.execSearchAddressH a v s
  | .searchAddressM a v => Sys2Proof.Machine.execSearchAddressM a v s
  | .searchAddressL a v => Sys2Proof.Machine.execSearchAddressL a v s
  | .programShortAddress a v => Sys2Proof.Machine.execProgramShortAddress a v s
  | .verifyShortAddress a v => Sys2Proof.Machine.execVerifyShortAddress a v s
  | .queryShortAddress a v => Sys2Proof.Machine.execQueryShortAddress a v s
  | .physicalSelection a v => Sys2Proof.Machine.execPhysicalSelection a v s
  | .enableDeviceOfType a v => Sys2Proof.Machine.execEnableDeviceOfType a v s
  | .setDTR1 a v => Sys2Proof.Machine.execSetDTR1 a v s
  | .setDTR2 a v => Sys2Proof.Machine.execSetDTR2 a v s
  | .writeMemoryLocation a v => Sys2Proof.Machine.execWriteMemoryLocation a v s
  | .send d p => Sys2Proof.Machine.execSend d p s
  | .distinctSend d p ds q => Sys2Proof.Machine.execDistinctSend d p ds q s
  | .continuousSend d p ds => Sys2Proof.Machine.execContinuousSend d p ds s
  | .confQuery n ds => Sys2Proof.Machine.execConfQuery n ds s
  | .confChange n x ds => Sys2Proof.Machine.execConfChange n x ds s
  | .sequenceEnd ds => Sys2Proof.Machine.execSequenceEnd ds s
  | .firmwareReset ds => Sys2Proof.Machine.execFirmwareReset ds s
  | .response r => Sys2Proof.Machine.execResponse r s
  | .distinctResponse r => Sys2Proof.Machine.execDistinctResponse r s
  | .noResponse r => Sys2Proof.Machine.execNoResponse r s
  | .distinctNoResponse r => Sys2Proof.Machine.execDistinctNoResponse r s
  | .confResponse n x => Sys2Proof.Machine.execConfResponse n x s
  | .confChangeAck n x k => Sys2Proof.Machine.execConfChangeAck n x k s
  | .specReceived m => Sys2Proof.Machine.execSpecReceived m s
  | .firmwareResetAck => Sys2Proof.Machine.execFirmwareResetAck s

end Sys2Proof.Machine
end

