-- ==== Sys2Proof/Machine/Codec.lean ====
section
/-! DEFINITION. The pure operations of the caller's interface (60_exceptions R402): each returns its result or raises its error
in the same step, and none reads or writes engine state (log 23). DESIGN CHOICE (log 33): `toBytecode` and `frameEncode` are given a
command as the caller describes it, and construct it first. -/

namespace Sys2Proof.Machine

/-- A record on the request port as the request it stands for, its command constructed (10_state R25, 40 R128).
DESIGN CHOICE (log 33): a command that `construct` refuses raises its `ValidationError` here. -/
def requestOf (cfg : Config) (r : RequestRecord) : Except Reject FoxtronRequest :=
  let built (d : CommandDesc) (k : DALICommand → FoxtronRequest) : Except Reject FoxtronRequest :=
    match d.construct cfg with
    | .ok c => .ok (k c)
    | .error e => .error (.raised e)
  match r.type with
  | .send =>
    match r.daliCommand with
    | some d => built d fun c => .send c r.priority
    | none => .error .requestFieldAbsent
  | .distinctSend =>
    match r.daliCommand with
    | some d => built d fun c => .distinctSend c r.priority r.doubleSend r.sequence
    | none => .error .requestFieldAbsent
  | .continuousSend =>
    match r.daliCommand with
    | some d => built d fun c => .continuousSend c r.priority r.doubleSend
    | none => .error .requestFieldAbsent
  | .confQuery =>
    match r.itemIndex with
    | some i => .ok (.confQuery i r.doubleSend)
    | none => .error .requestFieldAbsent
  | .confChange =>
    match r.itemIndex, r.itemData with
    | some i, some d => .ok (.confChange i d r.doubleSend)
    | _, _ => .error .requestFieldAbsent
  | .sequenceEnd => .ok (.sequenceEnd r.doubleSend)
  | .firmwareReset => .ok (.firmwareReset r.doubleSend)

/-- The frame of a request record, or why there is none (46 R285). DESIGN CHOICE (log 33): R285 takes a request whose command is
already constructed; here the record is made one first, so that `ValidationError` can come beside `ForbiddenOperation`. -/
def encodeRecord (cfg : Config) (r : RequestRecord) : Except Reject (List Byte) :=
  match requestOf cfg r with
  | .error e => .error e
  | .ok req =>
    match frameEncode cfg req with
    | .ok f => .ok f
    | .error e => .error (.raised e)

/-- An operation that can only return or raise. -/
def pureResult {α : Type} (k : α → CodecResult) : Except Error α → Except Reject CodecResult
  | .ok a => .ok (k a)
  | .error e => .error (.raised e)

/-- The result of a pure operation (60 R402). DESIGN CHOICE (log 33): `toBytecode` constructs the command it is given first, where
40 R129 takes a constructed one, and raises the `ValidationError` of `construct`. -/
def CodecOp.run (cfg : Config) : CodecOp → Except Reject CodecResult
  | .address sh g => pureResult .address (addressOf sh g)
  | .construct d => pureResult .command (d.construct cfg)
  | .toBytecode d => pureResult (fun c => .word (Sys2Proof.toBytecode cfg c)) (d.construct cfg)
  | .fromBytecode w => pureResult .command (Sys2Proof.fromBytecode cfg w)
  | .cmdValueType c => .ok (.valueType (Sys2Proof.cmdValueType cfg c))
  | .respValueType c => .ok (.valueType (Sys2Proof.respValueType cfg c))
  | .decodeResponse b c => pureResult .response (Sys2Proof.decodeResponse cfg b c)
  | .frameEncode r =>
    match encodeRecord cfg r with
    | .ok f => .ok (.frame f)
    | .error e => .error e
  | .frameDecode f => pureResult .foxtron (Sys2Proof.frameDecode cfg f)
  | .checksum p => .ok (.hex (Sys2Proof.checksum p))
  | .levelOfFraction n d => .ok (.level (Sys2Proof.levelOfFraction n d))

end Sys2Proof.Machine
end

