-- ==== Sys2Proof/Machine/Fetch.lean ====
section
/-! DEFINITION. What the next presented input asks of the machine: an instruction to run, or a step that is no instruction of
the opcode table (48_master_engine, step table; 60_exceptions R381, R402). Inputs are taken one at a time in arrival order. -/

namespace Sys2Proof.Machine

/-- What a step is about to do. -/
inductive Fetched where
  | idle
  | run (i : Instr) (s : State)
  | done (s : State)
  | refuse (r : Refusal)

/-- A decode error of an inbound chunk goes to `RxError` (48 R335); of a word or a descriptor, to the caller (60 R385). -/
def deliverDecodeError (x : Encoded) (e : Error) (s : State) : State :=
  match x with
  | .chunk f => rxError e f s
  | .word _ | .descriptor _ _ _ _ | .request _ => s.raiseError e

/-- An instruction presented in its encoding: decoded, or turned away as its rejection says. -/
def fetchInstr (x : Encoded) (s : State) : Fetched :=
  match decode s.cfg x with
  | .ok i => .run i s
  | .error (.raised e) => .done (deliverDecodeError x e s)
  | .error .codeNotInEnumeration => .refuse .codeNotInEnumeration
  | .error .requestFieldAbsent => .refuse .requestFieldAbsent

/-- A pure operation: its result or its error stands on the caller's port (60 R385, R402). -/
def fetchCodec (op : CodecOp) (s : State) : Fetched :=
  match op.run s.cfg with
  | .ok r => .done (s.emit (.result r))
  | .error (.raised e) => .done (s.raiseError e)
  | .error .codeNotInEnumeration => .refuse .codeNotInEnumeration
  | .error .requestFieldAbsent => .refuse .requestFieldAbsent

/-- The step one input asks for. -/
def fetchInput (x : Input) (s : State) : Fetched :=
  match x with
  | .present e => fetchInstr e s
  | .transportOpen => .done (transportOpen s)
  | .transportClose err => .done (transportClose err s)
  | .timerExpiry => .done (timerExpiry s)
  | .reset => .done (resetRequest s)
  | .close => .done (closeSession s)
  | .isOpen => .done (queryOpen s)
  | .setSearchAddress v => .done (setSearchAddress v s)
  | .codec op => fetchCodec op s

/-- The next input is taken off the list; with none, the engine is idle (60 R393; log 1). -/
def fetch (s : State) : Fetched :=
  match s.inputs with
  | [] => .idle
  | x :: rest => fetchInput x (s.setInputs rest)

end Sys2Proof.Machine
end

