-- ==== Sys2Proof/Machine/Step.lean ====
section
/-! DEFINITION. One step of the machine: it takes the next presented input and runs it. -/

namespace Sys2Proof.Machine

/-- One step. An idle engine with nothing presented stays as it is (60_exceptions R393). -/
def step (s : State) : Host.Outcome State Fault Refusal :=
  match fetch s with
  | .idle => .next s
  | .run i s' => exec i s'
  | .done s' => .next s'
  | .refuse r => .refused r

/-- `s` with a table word as the next input presented: the block fetches nothing (20_memory R68), what is presented next is what
runs next. -/
def State.withFetchWord (s : State) (nbits w : Nat) : State :=
  { s with inputs := .present (tableInput nbits w) :: s.inputs }

end Sys2Proof.Machine
end

