-- ==== Sys2Proof/Safety.lean ====
section
/-! DEFINITION. The terms the claims use: what an instruction presents, the state an accepted request leaves, the illegal forward
words (30_encoding R82), well-framed transmissions (95 V124), the engine invariants (10_state R37), single firing (60 R386, 95 V127)
and the session events (95 V128). -/

namespace Sys2Proof

/-- What an instruction presents to the engine: a bare command, a request with the command it carries, or a decoded frame. -/
inductive Presented where
  | command (d : CommandDesc)
  | request (t : RequestType) (d : Option CommandDesc)
  | frame (r : FoxtronResponse)
deriving DecidableEq, Repr

/-- What each instruction presents. -/
def Instr.presented : Instr → Presented
  | .directArcPower a v => .command ⟨.directArcPower, a, v⟩
  | .off a v => .command ⟨.off, a, v⟩
  | .up a v => .command ⟨.up, a, v⟩
  | .down a v => .command ⟨.down, a, v⟩
  | .stepUp a v => .command ⟨.stepUp, a, v⟩
  | .stepDown a v => .command ⟨.stepDown, a, v⟩
  | .recallMaxLevel a v => .command ⟨.recallMaxLevel, a, v⟩
  | .recallMinLevel a v => .command ⟨.recallMinLevel, a, v⟩
  | .stepDownAndOff a v => .command ⟨.stepDownAndOff, a, v⟩
  | .onAndStepUp a v => .command ⟨.onAndStepUp, a, v⟩
  | .enableDAPCSequence a v => .command ⟨.enableDAPCSequence, a, v⟩
  | .goToScene a v => .command ⟨.goToScene, a, v⟩
  | .reset a v => .command ⟨.reset, a, v⟩
  | .storeActualLevelInDTR a v => .command ⟨.storeActualLevelInDTR, a, v⟩
  | .storeDTRAsMaxLevel a v => .command ⟨.storeDTRAsMaxLevel, a, v⟩
  | .storeDTRAsMinLevel a v => .command ⟨.storeDTRAsMinLevel, a, v⟩
  | .storeDTRAsSystemFailureLevel a v => .command ⟨.storeDTRAsSystemFailureLevel, a, v⟩
  | .storeDTRAsPowerOnLevel a v => .command ⟨.storeDTRAsPowerOnLevel, a, v⟩
  | .storeDTRAsFadeTime a v => .command ⟨.storeDTRAsFadeTime, a, v⟩
  | .storeDTRAsFadeRate a v => .command ⟨.storeDTRAsFadeRate, a, v⟩
  | .storeDTRasScene a v => .command ⟨.storeDTRasScene, a, v⟩
  | .removeScene a v => .command ⟨.removeScene, a, v⟩
  | .addToGroup a v => .command ⟨.addToGroup, a, v⟩
  | .removeFromGroup a v => .command ⟨.removeFromGroup, a, v⟩
  | .storeDTRAsShortAddress a v => .command ⟨.storeDTRAsShortAddress, a, v⟩
  | .enableWriteMemory a v => .command ⟨.enableWriteMemory, a, v⟩
  | .queryStatus a v => .command ⟨.queryStatus, a, v⟩
  | .queryControlGear a v => .command ⟨.queryControlGear, a, v⟩
  | .queryLampFailure a v => .command ⟨.queryLampFailure, a, v⟩
  | .queryLampPowerOn a v => .command ⟨.queryLampPowerOn, a, v⟩
  | .queryLimitError a v => .command ⟨.queryLimitError, a, v⟩
  | .queryResetState a v => .command ⟨.queryResetState, a, v⟩
  | .queryMissingShortAddress a v => .command ⟨.queryMissingShortAddress, a, v⟩
  | .queryVersionNumber a v => .command ⟨.queryVersionNumber, a, v⟩
  | .queryContentDTR a v => .command ⟨.queryContentDTR, a, v⟩
  | .queryDeviceType a v => .command ⟨.queryDeviceType, a, v⟩
  | .queryPhysicalMinimum a v => .command ⟨.queryPhysicalMinimum, a, v⟩
  | .queryPowerFailure a v => .command ⟨.queryPowerFailure, a, v⟩
  | .queryContentDTR1 a v => .command ⟨.queryContentDTR1, a, v⟩
  | .queryContentDTR2 a v => .command ⟨.queryContentDTR2, a, v⟩
  | .queryActualLevel a v => .command ⟨.queryActualLevel, a, v⟩
  | .queryMaxLevel a v => .command ⟨.queryMaxLevel, a, v⟩
  | .queryMinLevel a v => .command ⟨.queryMinLevel, a, v⟩
  | .queryPowerOnLevel a v => .command ⟨.queryPowerOnLevel, a, v⟩
  | .querySystemFailureLevel a v => .command ⟨.querySystemFailureLevel, a, v⟩
  | .queryFadeTimeRate a v => .command ⟨.queryFadeTimeRate, a, v⟩
  | .querySceneLevel a v => .command ⟨.querySceneLevel, a, v⟩
  | .queryGroups0to7 a v => .command ⟨.queryGroups0to7, a, v⟩
  | .queryGroups8to15 a v => .command ⟨.queryGroups8to15, a, v⟩
  | .queryRandomAddressH a v => .command ⟨.queryRandomAddressH, a, v⟩
  | .queryRandomAddressM a v => .command ⟨.queryRandomAddressM, a, v⟩
  | .queryRandomAddressL a v => .command ⟨.queryRandomAddressL, a, v⟩
  | .readMemoryLocation a v => .command ⟨.readMemoryLocation, a, v⟩
  | .extendedVersionNumber a v => .command ⟨.extendedVersionNumber, a, v⟩
  | .terminate a v => .command ⟨.terminate, a, v⟩
  | .dataTransferRegister a v => .command ⟨.dataTransferRegister, a, v⟩
  | .initialise a v => .command ⟨.initialise, a, v⟩
  | .randomize a v => .command ⟨.randomize, a, v⟩
  | .compare a v => .command ⟨.compare, a, v⟩
  | .withdraw a v => .command ⟨.withdraw, a, v⟩
  | .ping a v => .command ⟨.ping, a, v⟩
  | .searchAddressH a v => .command ⟨.searchAddressH, a, v⟩
  | .searchAddressM a v => .command ⟨.searchAddressM, a, v⟩
  | .searchAddressL a v => .command ⟨.searchAddressL, a, v⟩
  | .programShortAddress a v => .command ⟨.programShortAddress, a, v⟩
  | .verifyShortAddress a v => .command ⟨.verifyShortAddress, a, v⟩
  | .queryShortAddress a v => .command ⟨.queryShortAddress, a, v⟩
  | .physicalSelection a v => .command ⟨.physicalSelection, a, v⟩
  | .enableDeviceOfType a v => .command ⟨.enableDeviceOfType, a, v⟩
  | .setDTR1 a v => .command ⟨.setDTR1, a, v⟩
  | .setDTR2 a v => .command ⟨.setDTR2, a, v⟩
  | .writeMemoryLocation a v => .command ⟨.writeMemoryLocation, a, v⟩
  | .send d _ => .request .send (some d)
  | .distinctSend d _ _ _ => .request .distinctSend (some d)
  | .continuousSend d _ _ => .request .continuousSend (some d)
  | .confQuery _ _ => .request .confQuery none
  | .confChange _ _ _ => .request .confChange none
  | .sequenceEnd _ => .request .sequenceEnd none
  | .firmwareReset _ => .request .firmwareReset none
  | .response r => .frame (.response r)
  | .distinctResponse r => .frame (.distinctResponse r)
  | .noResponse r => .frame (.noResponse r)
  | .distinctNoResponse r => .frame (.distinctNoResponse r)
  | .confResponse i d => .frame (.confResponse i d)
  | .confChangeAck i d k => .frame (.confChangeAck i d k)
  | .specReceived m => .frame (.specReceived m)
  | .firmwareResetAck => .frame .firmwareResetAck

/-- What the caller gives to `construct` with an instruction (40 R128). -/
def Instr.operands (i : Instr) : Option CommandDesc :=
  match i.presented with
  | .command d => some d
  | .request _ d => d
  | .frame _ => none

/-- The instruction is one the caller sends: every command and every request (48 R330). -/
def Instr.sends (i : Instr) : Bool :=
  match i.presented with
  | .command _ | .request _ _ => true
  | .frame _ => false

/-- The instruction is sent as a correlated request (48 R331): every command and every request but `Send`. -/
def Instr.correlated (i : Instr) : Bool :=
  match i.presented with
  | .command _ => true
  | .request t _ => t.correlated
  | .frame _ => false

/-- `construct` accepts the operands, where the instruction has any (40 R128). -/
def Instr.constructs (cfg : Config) (i : Instr) : Prop := ∀ d, i.operands = some d → ∃ c, d.construct cfg = .ok c

/-- The row of R126 for a command value type that carries a value: minimum and maximum. -/
def contractBounds (t : ValueType) (c : Code) : Nat × Nat :=
  match t with
  | .scene | .group => (0, 15)
  | .short => (0, 63)
  | .random => (0, 255)
  | .dataByte => if c = .directArcPower then (0, 254) else (0, 255)
  | .boolean | .dataByteAndFalse | .null => (0, 0)

/-- The frame is a `DistinctResponse` or a `DistinctNoResponse`, and this is its record: the two types that count echoes (48
R336). -/
def Instr.distinctFrame (i : Instr) (r : FoxtronResponse) : Prop :=
  (∃ x, i = .distinctResponse x ∧ r = .distinctResponse x) ∨ (∃ x, i = .distinctNoResponse x ∧ r = .distinctNoResponse x)

/-- The illegal forward words, in R82's own numbers, which are the default tables'. -/
def illegalWord (w : Word) : Bool :=
  let hi := w.toNat / 256
  let lo := w.toNat % 256
  let special := decide (0xA0 ≤ hi) && decide (hi ≤ 0xDF)
  let reserved := decide (0xE0 ≤ hi) && decide (hi ≤ 0xFD)
  let addressed := !special && !reserved
  let between (x a b : Nat) : Bool := decide (a ≤ x) && decide (x ≤ b)
  let unassignedOpcode :=
    between lo 10 15 || between lo 34 41 || between lo 48 63 || between lo 130 143 || between lo 158 159 ||
      between lo 166 175 || between lo 198 254
  let unassignedSpecial := decide (hi = 0xAF) || decide (hi = 0xBF) || between hi 0xC9 0xDF
  let withoutValue := [0xA1, 0xA7, 0xA9, 0xAB, 0xAD, 0xBB, 0xBD].contains hi
  let withShort := decide (hi = 0xB7) || decide (hi = 0xB9)
  reserved ||
    (special && (decide (hi % 2 = 0) || unassignedSpecial || (withoutValue && decide (lo ≠ 0)) ||
      (withShort && (decide (lo % 2 = 0) || decide (128 ≤ lo))))) ||
    (addressed && ((decide (hi % 2 = 0) && decide (lo = 255)) || (decide (hi % 2 = 1) && unassignedOpcode)))

/-- A frame as V124 asks of every transmission: `SOH` first, `ETB` last, uppercase hex between, a payload of even length with at
least the type field, a valid checksum. -/
def wellFramed (f : List Byte) : Bool :=
  decide (f.head? = some soh) && decide (f.getLast? = some etb) && decide (6 ≤ f.length) && decide (f.length % 2 = 0) &&
    ((f.drop 1).dropLast.all fun c => (hexDigit c).isSome) && checksumValid f

/-- A frame with any checksum byte after the payload (R85). -/
def frameWith (k : Byte) (p : HexString) : List Byte := soh :: ((p ++ hex2 k).map hexChar ++ [etb])

/-- The payloads of R97 to R104, framed this way, decode to the records with those fields: for every valid command and every
response byte its code can answer with, every item index, item data, acknowledgement flag and special condition. -/
def BenchFramesDecode (cfg : Config) (framed : HexString → List Byte) : Prop :=
  (∀ (c : DALICommand) (b : Byte) (r : DALIResponse), c.valid cfg = true → decodeResponse cfg b c.code = .ok r →
    frameDecode cfg (framed
        (hex2 (cfg.rspTypeCode .response) ++ hex2 0x10 ++ hex4 (toBytecode cfg c) ++ hex2 0x08 ++ hex2 b)) =
      .ok (.response (.answered c r)) ∧
    frameDecode cfg (framed
        (hex2 (cfg.rspTypeCode .distinctResponse) ++ hex2 0x10 ++ hex4 (toBytecode cfg c) ++ hex2 0x08 ++ hex2 b)) =
      .ok (.distinctResponse (.answered c r))) ∧
  (∀ c : DALICommand, c.valid cfg = true →
    frameDecode cfg (framed (hex2 (cfg.rspTypeCode .noResponse) ++ hex2 0x10 ++ hex4 (toBytecode cfg c))) =
      .ok (.noResponse (.forward c)) ∧
    frameDecode cfg (framed (hex2 (cfg.rspTypeCode .distinctNoResponse) ++ hex2 0x10 ++ hex4 (toBytecode cfg c))) =
      .ok (.distinctNoResponse (.forward c))) ∧
  (∀ (i : Byte) (d : Word),
    frameDecode cfg (framed (hex2 (cfg.rspTypeCode .confResponse) ++ hex2 i ++ hex4 d)) = .ok (.confResponse i d) ∧
    ∀ k : AckFlag, frameDecode cfg (framed
        (hex2 (cfg.rspTypeCode .confChangeAck) ++ hex2 i ++ hex4 d ++ hex2 (cfg.ackFlagCode k))) =
      .ok (.confChangeAck i d k)) ∧
  (∀ m : SpecialMessage,
    frameDecode cfg (framed (hex2 (cfg.rspTypeCode .specReceived) ++ hex2 (cfg.specCode m))) = .ok (.specReceived m)) ∧
  frameDecode cfg (framed (hex2 (cfg.rspTypeCode .firmwareResetAck))) = .ok .firmwareResetAck

namespace Machine

/-! ## The states the steps leave, in the terms of the rules -/

/-- The state with these outputs strobed and nothing else written. -/
def State.emitting (s : State) (os : List Output) : State := { s with outputs := s.outputs ++ os }

/-- A correlated request accepted by a usable engine with a free slot: the request is in flight, the frame of the payload is
transmitted, the new completion goes to the caller (48 R332 to R334). -/
def State.taking (s : State) (req : FoxtronRequest) (echoes : Nat) (p : HexString) : State :=
  { s with
    eng := { s.eng with inflight := some ⟨req, echoes, s.nextCompletion⟩ }
    nextCompletion := s.nextCompletion + 1
    outputs := s.outputs ++ [.tx (frameOf p), .returned s.nextCompletion] }

/-- The payload of a bare command's frame: type, priority `00`, the literal `10`, the word, distinct parameter `00` (48 R330, 46
R287). -/
def barePayload (cfg : Config) (w : Word) : HexString :=
  hex2 (cfg.reqTypeCode .distinctSend) ++ hex2 0x00 ++ hex2 0x10 ++ hex4 w ++ hex2 0x00

/-- A bare command accepted: the default `DistinctSend` of the command, one echo expected, its word in the frame (48 R330). -/
def State.takingBare (s : State) (c : DALICommand) (w : Word) : State :=
  s.taking (.distinctSend c (some 0) (some false) (some false)) 1 (barePayload s.cfg w)

/-- An indirect command without a value: format `IND` with this opcode (30 R73). -/
def State.takingInd (s : State) (c : Code) (a : Option DALIAddress) (opcode : Byte) : State :=
  s.takingBare ⟨c, some (a.getD .broadcast), none⟩ (wordOf (addressByte (a.getD .broadcast) ||| 1) opcode)

/-- A block command: format `IND16` with this base opcode and this number in the low nibble (30 R74). -/
def State.takingBlock (s : State) (c : Code) (a : Option DALIAddress) (base n : Byte) : State :=
  s.takingBare ⟨c, some (a.getD .broadcast), some n⟩ (wordOf (addressByte (a.getD .broadcast) ||| 1) (base ||| n))

/-- A special command without a value: format `SPC-N` (30 R75). -/
def State.takingSpecial (s : State) (c : Code) (hi : Byte) : State := s.takingBare ⟨c, none, none⟩ (wordOf hi 0x00)

/-- A special command with a data byte: format `SPC-D` (30 R76). -/
def State.takingData (s : State) (c : Code) (hi v : Byte) : State := s.takingBare ⟨c, none, some v⟩ (wordOf hi v)

/-- A special command with a short address: format `SPC-A` (30 R77). -/
def State.takingShort (s : State) (c : Code) (hi v : Byte) : State :=
  s.takingBare ⟨c, none, some v⟩ (wordOf hi ((v <<< 1) ||| 1))

/-- A `sendCmd` answered by an unusable session: the synthetic response, no transmission, no engine state (48 R330). -/
def State.answeringNotOpen (s : State) : State :=
  { s with
    nextCompletion := s.nextCompletion + 1
    outputs := s.outputs ++
      [.resolve s.nextCompletion (.response (.specReceived .channelNotOpen)), .returned s.nextCompletion] }

/-- The word of a search-address command with this byte, in the address byte the table gives the command (48 R345, 30 R76). -/
def searchWord (cfg : Config) (c : Code) (b : Byte) : Word :=
  wordOf (BitVec.ofInt 8 (0xA1 + 2 * (cfg.number c - 256))) b

/-- The request record lacks a field that its type needs, which R25 says cannot be presented. -/
def lacksField (q : RequestRecord) : Prop :=
  (q.type ∈ [RequestType.send, .distinctSend, .continuousSend] ∧ q.daliCommand = none) ∨
  (q.type ∈ [RequestType.confQuery, .confChange] ∧ q.itemIndex = none) ∨
  (q.type = .confChange ∧ q.itemData = none)

/-! ## Invariants -/

/-- How many responses the sequencer has gathered in a phase (48 R346). -/
def SeqPhase.gathered : SeqPhase → Nat
  | .h => 0
  | .m => 1
  | .l => 2

/-- The engine invariant: R37 (a) to (d) and (f), with what makes it inductive. That the in-flight request is the sequencer's
own is said by its request, the command of the phase as a bare command (log 25). -/
structure State.Inv (s : State) : Prop where
  echoes : ∀ f, s.eng.inflight = some f → (f.remainingEchoes = 1 ∨ f.remainingEchoes = 2) ∧ f.request.type.correlated = true
  destroyed : s.eng.session = .destroyed →
    s.eng.transportOpen = false ∧ s.eng.inflight = none ∧ s.eng.bootTimerArmed = false
  timer : s.eng.bootTimerArmed = true → s.eng.session = .waitingForBoot ∧ s.eng.transportOpen = true
  announced : s.eng.session = .running → s.cfg.bootMethod ≠ .noBoot →
    s.eng.openEmitted = true ∧ s.eng.transportOpen = true
  sequencer : ∀ q, s.eng.seq = some q → q.results.length = q.phase.gathered ∧
    ∃ c, s.eng.inflight = some ⟨bareRequest (searchCommand q.phase q.value), 1, c⟩
  slotUsable : ∀ f, s.eng.inflight = some f → s.eng.usable = true
  booting : s.eng.session = .waitingForBoot → s.cfg.bootMethod ≠ .noBoot ∧ s.eng.openEmitted = false

/-- The completions that have fired, in order (60 R386). -/
def fired (os : List Output) : List Nat :=
  os.filterMap fun o =>
    match o with
    | .resolve c _ => some c
    | .reject c _ => some c
    | .tx _ | .setLine _ | .startTimer _ | .closeTransport | .returned _ | .raised _ | .event _ | .isOpen _ | .result _ => none

/-- Single firing: no completion has fired twice, and the completions still pending, of the slot and of the sequencer, are two
different ones that have not fired (60 R386; log 10). -/
structure State.FireOnce (s : State) : Prop where
  once : (fired s.outputs).Nodup
  made : ∀ c ∈ fired s.outputs, c < s.nextCompletion
  slot : ∀ f, s.eng.inflight = some f → f.completion ∉ fired s.outputs ∧ f.completion < s.nextCompletion
  sequence : ∀ q, s.eng.seq = some q → q.completion ∉ fired s.outputs ∧ q.completion < s.nextCompletion
  apart : ∀ f q, s.eng.inflight = some f → s.eng.seq = some q → f.completion ≠ q.completion

/-- The frames transmitted, in order. -/
def transmitted (os : List Output) : List (List Byte) :=
  os.filterMap fun o =>
    match o with
    | .tx f => some f
    | .resolve _ _ | .reject _ _ | .setLine _ | .startTimer _ | .closeTransport | .returned _ | .raised _ | .event _ | .isOpen _
    | .result _ => none

/-- Everything transmitted is well framed (95 V124). -/
def State.FramesSound (s : State) : Prop := ∀ f ∈ transmitted s.outputs, wellFramed f = true

/-- The two session events. -/
inductive SessionMark where
  | opened | closed
deriving DecidableEq, Repr

/-- The session events emitted, in order. -/
def sessionMarks (os : List Output) : List SessionMark :=
  os.filterMap fun o =>
    match o with
    | .event .sessionOpen => some .opened
    | .event (.sessionClosed _) => some .closed
    | _ => none

/-- `SessionOpen` was emitted at most once, `SessionClosed` at most once, and no `SessionOpen` after `SessionClosed`; the first
has been exactly if `S.openEmitted` says so, the second exactly if the session is destroyed (95 V128). -/
def State.MarksSound (s : State) : Prop :=
  sessionMarks s.outputs =
    (if s.eng.openEmitted then [.opened] else []) ++ (if s.eng.session = .destroyed then [.closed] else [])

end Machine

end Sys2Proof
end

