-- ==== Sys2Proof/Certificates/Slice0/Obligations.lean ====
section
/-! DEFINITION. The statements for the provers: what the spec's rules say an instruction or the machine does. -/

section

open Sys2Proof Sys2Proof.Machine

/-- O1. For every configuration that meets the constraints of R8 and every well-formed instruction (a command construct accepts, a
request record, a response a frame can report), encode gives words or a frame and decode of them is the instruction, with
every operand kept. The spec has no response encoder: the response direction is the inverse R316 gives for a bench. -/
def Obligations.EncodeDecodeAgree : Prop :=
  ∀ (cfg : Config) (i : Instr), cfg.wf = true → i.wf cfg = true → ∃ e, encode cfg i = some e ∧ decode cfg e = .ok i

/-- O2. For every configuration of R8 (any tables of the shape of R122 and R123), code, address and value that construct accepts,
decoding the encoded command reproduces it, its address in normal form; two constructed commands with one word are equal. -/
def Obligations.ConstructedCommandRoundTrips : Prop :=
  ∀ (cfg : Config) (c : Code) (a : Option DALIAddress) (v : Option Value) (cmd : DALICommand),
    cfg.wf = true → construct cfg c a v = .ok cmd →
    fromBytecode cfg (toBytecode cfg cmd) = .ok cmd ∧
    ∀ (c' : Code) (a' : Option DALIAddress) (v' : Option Value) (cmd' : DALICommand),
      construct cfg c' a' v' = .ok cmd' →
      toBytecode cfg cmd = toBytecode cfg cmd' → cmd = cmd'

/-- O3. For every configuration of R8 and every 16-bit word on which fromBytecode succeeds, toBytecode of the command is the word,
and the command satisfies the value contract and the address normal form. -/
def Obligations.DecodedWordReencodes : Prop :=
  ∀ (cfg : Config) (w : Word) (c : DALICommand), cfg.wf = true → fromBytecode cfg w = .ok c →
    toBytecode cfg c = w ∧ c.valid cfg = true

/-- O4. With the default tables of R122 and R123, whose numbers R82 uses: for every word, fromBytecode raises MalformedBytecode
carrying the word exactly when the word is in one of the classes of R82: reserved address bytes, even or unassigned special
bytes, a level 255, an unassigned opcode, a low byte the special form does not allow. The count R82 adds is not stated. -/
def Obligations.IllegalWordsAreMalformed : Prop :=
  ∀ (cfg : Config) (w : Word), cfg.defaultTables →
    (fromBytecode cfg w = .error (.malformedBytecode w) ↔ illegalWord w = true)

/-- O5. For every configuration: on every 16-bit word fromBytecode returns a command or raises MalformedBytecode, and toBytecode
returns a word for every command. -/
def Obligations.FromBytecodeIsTotal : Prop :=
  ∀ cfg : Config,
    (∀ w : Word, (∃ c, fromBytecode cfg w = .ok c) ∨ fromBytecode cfg w = .error (.malformedBytecode w)) ∧
    (∀ c : DALICommand, ∃ w : Word, toBytecode cfg c = w)

/-- O6. For every configuration of R8 and every valid command, bit 8 of its word (the low bit of the address byte) is 0 exactly
when the command is DirectArcPower, and the address byte of a special command is 0xA1 + 2*(code-256), whose low bit is set. -/
def Obligations.SelectorBitMarksLevels : Prop :=
  ∀ (cfg : Config) (c : DALICommand), cfg.wf = true → c.valid cfg = true →
    ((toBytecode cfg c).getLsbD 8 = false ↔ c.code = .directArcPower) ∧
    (256 ≤ cfg.number c.code →
      (((toBytecode cfg c).toNat / 256 : Nat) : Int) = 0xA1 + 2 * (cfg.number c.code - 256) ∧ (toBytecode cfg c).getLsbD 8 = true)

/-- O7. addressByte(Short n) = 2n (0x00..0x7E), addressByte(Group g) = 0x80 + 2g (0x80..0x9E), addressByte(Broadcast) = 0xFE; bit
0 is clear and bits 7:1 are 0nnnnnn, 100gggg or 1111111. -/
def Obligations.AddressByteLayout : Prop :=
  (∀ n : BitVec 6, (addressByte (.short n)).toNat = 2 * n.toNat ∧ (addressByte (.short n)).toNat ≤ 0x7E ∧
    (addressByte (.short n)).extractLsb' 1 7 = 0#1 ++ n) ∧
  (∀ g : BitVec 4, (addressByte (.group g)).toNat = 0x80 + 2 * g.toNat ∧ (addressByte (.group g)).toNat ≤ 0x9E ∧
    (addressByte (.group g)).extractLsb' 1 7 = 0b100#3 ++ g) ∧
  addressByte .broadcast = 0xFE ∧ (addressByte .broadcast).extractLsb' 1 7 = 0b1111111#7 ∧
  (∀ a : DALIAddress, (addressByte a).getLsbD 0 = false)

/-- O8. For every configuration of R8 and every valid command: DirectArcPower gives address byte and level; an indirect command
gives the address byte with bit 0 set and the code plus the scene or group number; a special command gives 0xA1 + 2*(code-256)
and 0, the data byte, or the short address shifted left with bit 0 set, by its command value type. -/
def Obligations.ForwardWordAssembly : Prop :=
  ∀ (cfg : Config) (c : DALICommand), cfg.wf = true → c.valid cfg = true →
    (cfg.number c.code = -1 → ∃ a v, c.address = some a ∧ c.value = some v ∧
      (toBytecode cfg c).toNat = (addressByte a).toNat * 256 + v.toNat) ∧
    (0 ≤ cfg.number c.code → cfg.number c.code ≤ 255 → ∃ a, c.address = some a ∧
      ((cmdValueType cfg c.code = .scene ∨ cmdValueType cfg c.code = .group) → ∃ v, c.value = some v ∧
        ((toBytecode cfg c).toNat : Int) = (((addressByte a).toNat + 1) * 256 : Nat) + (cfg.number c.code + v.toNat)) ∧
      (¬(cmdValueType cfg c.code = .scene ∨ cmdValueType cfg c.code = .group) →
        ((toBytecode cfg c).toNat : Int) = (((addressByte a).toNat + 1) * 256 : Nat) + cfg.number c.code)) ∧
    (256 ≤ cfg.number c.code →
      (cmdValueType cfg c.code = .null → ((toBytecode cfg c).toNat : Int) = (0xA1 + 2 * (cfg.number c.code - 256)) * 256) ∧
      (cmdValueType cfg c.code = .short → ∃ v, c.value = some v ∧
        ((toBytecode cfg c).toNat : Int) = (0xA1 + 2 * (cfg.number c.code - 256)) * 256 + (2 * v.toNat + 1 : Nat)) ∧
      ((cmdValueType cfg c.code = .dataByte ∨ cmdValueType cfg c.code = .random) → ∃ v, c.value = some v ∧
        ((toBytecode cfg c).toNat : Int) = (0xA1 + 2 * (cfg.number c.code - 256)) * 256 + v.toNat))

/-- O9. Nine forward words written bit by bit from the formats decode to the commands they stand for. With the default tables,
which the reset configuration has. A sanity statement. -/
def Obligations.SampleWordsDecode : Prop :=
  decodeTableWord 16 0b1111111001111111 = some (.directArcPower (some .broadcast) (some 127)) ∧
  decodeTableWord 16 0b0000101100000000 = some (.off (some (.short 5)) none) ∧
  decodeTableWord 16 0b1000010100011001 = some (.goToScene (some (.group 2)) (some 9)) ∧
  decodeTableWord 16 0b1111111100100000 = some (.reset (some .broadcast) none) ∧
  decodeTableWord 16 0b0000010110010000 = some (.queryStatus (some (.short 2)) none) ∧
  decodeTableWord 16 0b1111111110111111 = some (.querySceneLevel (some .broadcast) (some 15)) ∧
  decodeTableWord 16 0b1010001111111111 = some (.dataTransferRegister none (some 255)) ∧
  decodeTableWord 16 0b1011011100001011 = some (.programShortAddress none (some 5)) ∧
  decodeTableWord 16 0b1011101100000000 = some (.queryShortAddress none none)

/-- O10. For every configuration of R8, code and address: a code of command value type Null accepts no value and refuses any with
UnexpectedValue; any other code refuses an absent value with MissingValue, a value outside the bounds of R126 with
ValueOutOfRange and the bounds, and accepts the rest. The command made has no address for a special code and broadcast where
an addressed code was given none. -/
def Obligations.ConstructContract : Prop :=
  ∀ (cfg : Config) (c : Code) (a : Option DALIAddress), cfg.wf = true →
    let norm : Option DALIAddress := if 256 ≤ cfg.number c then none else some (a.getD .broadcast)
    let bounds := contractBounds (cmdValueType cfg c) c
    (cmdValueType cfg c = .null →
      construct cfg c a none = .ok ⟨c, norm, none⟩ ∧ ∀ v, construct cfg c a (some v) = .error (.validationError .unexpectedValue)) ∧
    (cmdValueType cfg c ≠ .null →
      construct cfg c a none = .error (.validationError .missingValue) ∧
      ∀ v : Value,
        (v.toInt < bounds.1 ∨ bounds.2 < v.toInt →
          construct cfg c a (some v) = .error (.validationError (.valueOutOfRange bounds.1 bounds.2))) ∧
        (bounds.1 ≤ v.toInt → v.toInt ≤ bounds.2 →
          construct cfg c a (some v) = .ok ⟨c, norm, some (v.setWidth 8)⟩ ∧ ((v.setWidth 8).toNat : Int) = v.toInt))

/-- O11. A short address present and in 0..63 gives Short, out of range raises ValueOutOfRange(0, 63), whatever the group field
holds; with no short address a group in 0..15 gives Group, out of range raises ValueOutOfRange(0, 15); both absent gives
Broadcast. For every configuration of R8 and every code, a descriptor with the code on the code port decodes to the
instruction of that code, with the address so made and the value as given, or to the error of address. That the two address
fields are on 32-bit ports is the model's (log 31). -/
def Obligations.DescriptorsDecode : Prop :=
  (∀ (n : Value) (g : Option Value), 0 ≤ n.toInt → n.toInt ≤ 63 →
    addressOf (some n) g = .ok (.short (n.setWidth 6)) ∧ ((n.setWidth 6).toNat : Int) = n.toInt) ∧
  (∀ (n : Value) (g : Option Value), n.toInt < 0 ∨ 63 < n.toInt →
    addressOf (some n) g = .error (.validationError (.valueOutOfRange 0 63))) ∧
  (∀ g : Value, 0 ≤ g.toInt → g.toInt ≤ 15 →
    addressOf none (some g) = .ok (.group (g.setWidth 4)) ∧ ((g.setWidth 4).toNat : Int) = g.toInt) ∧
  (∀ g : Value, g.toInt < 0 ∨ 15 < g.toInt →
    addressOf none (some g) = .error (.validationError (.valueOutOfRange 0 15))) ∧
  addressOf none none = .ok .broadcast ∧
  (∀ (cfg : Config) (c : Code) (sh g v : Option Value), cfg.wf = true →
    (∀ a, addressOf sh g = .ok a → decode cfg (.descriptor (cfg.codePort c) sh g v) = .ok (Instr.ofCode (some a) v c)) ∧
    (∀ e, addressOf sh g = .error e → decode cfg (.descriptor (cfg.codePort c) sh g v) = .error (.raised e)))

/-- O12. The checksum of the hex digits of any bytes is hex2 of 0xFF minus their sum modulo 256; a payload of odd length has the
checksum of the payload with a 0 in front; the three worked examples of the source. -/
def Obligations.ChecksumFunction : Prop :=
  (∀ bs : List Byte, checksum (bs.flatMap hex2) = hex2 (BitVec.ofNat 8 (0xFF - (bs.map (·.toNat)).sum % 256))) ∧
  (∀ p : HexString, p.length % 2 = 1 → checksum p = checksum (0 :: p)) ∧
  checksum [0, 1, 0, 0, 1, 0, 0xF, 0xF, 0, 0] = [0xE, 0xF] ∧
  checksum [1, 0, 0, 1, 0, 0xF, 0xF, 1, 0] = [0xD, 0xF] ∧
  checksum [1, 0, 0, 1, 0, 0xF, 0xF, 0, 5] = [0xE, 0xA]

/-- O13. For a frame of the digits of one or more payload bytes and one checksum byte between SOH and ETB, checksumValid holds
exactly when all byte-pair values together sum to 0xFF modulo 256. -/
def Obligations.ValidFrameSumsTo255 : Prop :=
  ∀ (bs : List Byte) (k : Byte), bs ≠ [] →
    (checksumValid (soh :: ((bs.flatMap hex2 ++ hex2 k).map hexChar ++ [etb])) = true ↔
      ((bs.map (·.toNat)).sum + k.toNat) % 256 = 255)

/-- O14. For every configuration of R8: a Send frame has 14 bytes with 01, the priority, 10, the forward word; DistinctSend 16
bytes with the distinct parameter (bit 0 doubleSend, bit 1 sequence) after the word; ContinuousSend 14 with its own type;
ConfQuery 8 with the item index; ConfChange the index and the characters of CFG.confDataHex; SequenceEnd 8 with 00. The
priority byte is the priority if it is 0..5 and 00 if it is absent, negative or above 5 (that a negative one is sent as 00 is
R286's own decision, D29). Each frame starts with SOH, ends with a valid checksum and ETB. -/
def Obligations.RequestFrameLayouts : Prop :=
  ∀ (cfg : Config), cfg.wf = true → ∀ (c : DALICommand) (p : Option Value) (ds q : Option Bool) (i : Byte) (d : Word),
    (∃ f, frameEncode cfg (.send c p) = .ok f ∧ f.length = 14 ∧ f[0]? = some soh ∧ unhex2 f 1 = .ok 0x01 ∧
      unhex2 f 3 = .ok (priorityByte p) ∧ unhex2 f 5 = .ok 0x10 ∧ unhex4 f 7 = .ok (toBytecode cfg c) ∧
      checksumValid f = true ∧ f[13]? = some etb) ∧
    (∃ f, frameEncode cfg (.distinctSend c p ds q) = .ok f ∧ f.length = 16 ∧ f[0]? = some soh ∧
      unhex2 f 1 = .ok (cfg.reqTypeCode .distinctSend) ∧ unhex2 f 3 = .ok (priorityByte p) ∧ unhex2 f 5 = .ok 0x10 ∧
      unhex4 f 7 = .ok (toBytecode cfg c) ∧
      unhex2 f 11 = .ok (BitVec.ofNat 8 ((if ds = some true then 1 else 0) + (if q = some true then 2 else 0))) ∧
      checksumValid f = true ∧ f[15]? = some etb) ∧
    (∃ f, frameEncode cfg (.continuousSend c p ds) = .ok f ∧ f.length = 14 ∧ f[0]? = some soh ∧
      unhex2 f 1 = .ok (cfg.reqTypeCode .continuousSend) ∧ unhex2 f 3 = .ok (priorityByte p) ∧ unhex2 f 5 = .ok 0x10 ∧
      unhex4 f 7 = .ok (toBytecode cfg c) ∧ checksumValid f = true ∧ f[13]? = some etb) ∧
    (∃ f, frameEncode cfg (.confQuery i ds) = .ok f ∧ f.length = 8 ∧ f[0]? = some soh ∧
      unhex2 f 1 = .ok (cfg.reqTypeCode .confQuery) ∧ unhex2 f 3 = .ok i ∧ checksumValid f = true ∧ f[7]? = some etb) ∧
    (∃ f, frameEncode cfg (.confChange i d ds) = .ok f ∧ f.length = 8 + (cfg.confDataHex i d).digits.length ∧
      f[0]? = some soh ∧ unhex2 f 1 = .ok (cfg.reqTypeCode .confChange) ∧ unhex2 f 3 = .ok i ∧
      (f.drop 5).take (cfg.confDataHex i d).digits.length = (cfg.confDataHex i d).digits.map hexChar ∧
      checksumValid f = true ∧ f.getLast? = some etb) ∧
    (∃ f, frameEncode cfg (.sequenceEnd ds) = .ok f ∧ f.length = 8 ∧ f[0]? = some soh ∧
      unhex2 f 1 = .ok (cfg.reqTypeCode .sequenceEnd) ∧ unhex2 f 3 = .ok 0x00 ∧ checksumValid f = true ∧
      f[7]? = some etb) ∧
    priorityByte none = 0 ∧
    (∀ x : Value, 0 ≤ x.toInt → x.toInt ≤ 5 → ((priorityByte (some x)).toNat : Int) = x.toInt) ∧
    (∀ x : Value, x.toInt < 0 ∨ 5 < x.toInt → priorityByte (some x) = 0)

/-- O15. For every configuration and request, frameEncode raises ForbiddenOperation exactly for FirmwareReset; otherwise it gives
a frame that starts with SOH, ends with ETB, has uppercase hex between, an even-length payload and a valid checksum. -/
def Obligations.EncodedFramesAreWellFramed : Prop :=
  ∀ (cfg : Config) (req : FoxtronRequest),
    (req.type = .firmwareReset → frameEncode cfg req = .error .forbiddenOperation) ∧
    (req.type ≠ .firmwareReset → ∃ f, frameEncode cfg req = .ok f ∧ wellFramed f = true)

/-- O16. For every configuration, byte and code, by the response value type: the Boolean codes give whether it is not 0; the
DataByte and Random codes give it verbatim; QueryShortAddress gives bits 6:1, whatever bits 7 and 0 are; ExtendedVersionNumber
and WriteMemoryLocation give false for 0 and the byte otherwise. The code lists are those of the rules, and, with the default
tables, exactly the codes of each type. -/
def Obligations.AnswersDecodeByResponseType : Prop :=
  ∀ (cfg : Config) (b : Byte) (c : Code),
    (cfg.defaultTables →
    (c ∈ [Code.queryControlGear, .queryLampFailure, .queryLampPowerOn, .queryLimitError, .queryResetState,
        .queryMissingShortAddress, .queryPowerFailure, .compare, .verifyShortAddress] ↔ respValueType cfg c = .boolean) ∧
    (c ∈ [Code.queryStatus, .queryVersionNumber, .queryContentDTR, .queryDeviceType, .queryPhysicalMinimum,
        .queryContentDTR1, .queryContentDTR2, .queryActualLevel, .queryMaxLevel, .queryMinLevel, .queryPowerOnLevel,
        .querySystemFailureLevel, .queryFadeTimeRate, .querySceneLevel, .queryGroups0to7, .queryGroups8to15,
        .readMemoryLocation] ↔ respValueType cfg c = .dataByte) ∧
    (c ∈ [Code.queryRandomAddressH, .queryRandomAddressM, .queryRandomAddressL] ↔ respValueType cfg c = .random) ∧
    (c = .queryShortAddress ↔ respValueType cfg c = .short) ∧
    (c ∈ [Code.extendedVersionNumber, .writeMemoryLocation] ↔ respValueType cfg c = .dataByteAndFalse)) ∧
    (respValueType cfg c = .boolean → decodeResponse cfg b c = .ok ⟨.flag (decide (b ≠ 0)), .boolean⟩) ∧
    (respValueType cfg c = .dataByte → decodeResponse cfg b c = .ok ⟨.number b, .dataByte⟩) ∧
    (respValueType cfg c = .random → decodeResponse cfg b c = .ok ⟨.number b, .random⟩) ∧
    (respValueType cfg c = .short → decodeResponse cfg b c = .ok ⟨.number ((b.extractLsb' 1 6).setWidth 8), .short⟩) ∧
    (respValueType cfg c = .dataByteAndFalse → b = 0 → decodeResponse cfg b c = .ok ⟨.flag false, .dataByteAndFalse⟩) ∧
    (respValueType cfg c = .dataByteAndFalse → b ≠ 0 → decodeResponse cfg b c = .ok ⟨.number b, .dataByteAndFalse⟩)

/-- O17. For every byte and code, with any tables of the shape of R122 and R123 decodeResponse raises UnexpectedResponse exactly
when the response value type is Null; with the default tables it raises UnexpectedResponse exactly when the code is
DirectArcPower, an indirect command 0..129, or a special command other than Compare, VerifyShortAddress, QueryShortAddress and
WriteMemoryLocation. -/
def Obligations.NullContractAnswersRaise : Prop :=
  ∀ (cfg : Config) (b : Byte) (c : Code),
    (cfg.wf = true → (decodeResponse cfg b c = .error .unexpectedResponse ↔ respValueType cfg c = .null)) ∧
    (cfg.defaultTables → (decodeResponse cfg b c = .error .unexpectedResponse ↔
      (cfg.number c ≤ 129 ∨
        (256 ≤ cfg.number c ∧ c ≠ .compare ∧ c ≠ .verifyShortAddress ∧ c ≠ .queryShortAddress ∧ c ≠ .writeMemoryLocation))))

/-- O18. For every configuration of R8, every valid command, every response byte its code can answer with, every item index, item
data, acknowledgement flag and special condition: the framed payload of each of the eight response types decodes to the record
with those fields, with checksum verification on or off. -/
def Obligations.BenchFramesDecodeToTheirFields : Prop :=
  ∀ cfg : Config, cfg.wf = true → BenchFramesDecode cfg frameOf

/-- O19. For every configuration of R8 and any characters that follow: a data length of 0 gives a record with framingError and no
command; any data length but 0 and 16 raises ProtocolError; after a valid command word a response length of 0 gives a record
with framingError and no response, any but 0 and 8 raises ProtocolError, and a response byte to a command that expects none
raises UnexpectedResponse; an embedded word that fromBytecode refuses raises its MalformedBytecode. -/
def Obligations.LengthFieldsDecide : Prop :=
  ∀ (cfg : Config), cfg.wf = true → ∀ (rest : HexString) (n : Byte) (c : DALICommand) (w : Word),
    (frameDecode cfg (frameOf (hex2 (cfg.rspTypeCode .response) ++ hex2 0 ++ rest)) = .ok (.response .noForward) ∧
      frameDecode cfg (frameOf (hex2 (cfg.rspTypeCode .distinctResponse) ++ hex2 0 ++ rest)) =
        .ok (.distinctResponse .noForward) ∧
      frameDecode cfg (frameOf (hex2 (cfg.rspTypeCode .noResponse) ++ hex2 0 ++ rest)) = .ok (.noResponse .noForward) ∧
      frameDecode cfg (frameOf (hex2 (cfg.rspTypeCode .distinctNoResponse) ++ hex2 0 ++ rest)) =
        .ok (.distinctNoResponse .noForward)) ∧
    (∀ t ∈ [ResponseType.response, .distinctResponse, .noResponse, .distinctNoResponse],
      (n ≠ 0 → n ≠ 16 →
        frameDecode cfg (frameOf (hex2 (cfg.rspTypeCode t) ++ hex2 n ++ rest)) = .error .protocolError) ∧
      (fromBytecode cfg w = .error (.malformedBytecode w) →
        frameDecode cfg (frameOf (hex2 (cfg.rspTypeCode t) ++ hex2 16 ++ hex4 w ++ rest)) = .error (.malformedBytecode w))) ∧
    (c.valid cfg = true →
      frameDecode cfg (frameOf (hex2 (cfg.rspTypeCode .response) ++ hex2 16 ++ hex4 (toBytecode cfg c) ++ hex2 0 ++ rest)) =
        .ok (.response (.noBackward c)) ∧
      frameDecode cfg (frameOf (hex2 (cfg.rspTypeCode .distinctResponse) ++ hex2 16 ++ hex4 (toBytecode cfg c) ++ hex2 0 ++ rest)) =
        .ok (.distinctResponse (.noBackward c)) ∧
      ∀ t ∈ [ResponseType.response, .distinctResponse],
        (n ≠ 0 → n ≠ 8 →
          frameDecode cfg (frameOf (hex2 (cfg.rspTypeCode t) ++ hex2 16 ++ hex4 (toBytecode cfg c) ++ hex2 n ++ rest)) =
            .error .protocolError) ∧
        (respValueType cfg c.code = .null → ∀ b : Byte,
          frameDecode cfg (frameOf (hex2 (cfg.rspTypeCode t) ++ hex2 16 ++ hex4 (toBytecode cfg c) ++ hex2 8 ++ hex2 b ++ rest)) =
            .error .unexpectedResponse))

/-- O20. For every configuration of R8: a ConfChangeAck frame whose flag byte is no code of CFG.ackFlagCode, and a SpecReceived
frame whose byte is no code of CFG.specCode, raise ProtocolError. -/
def Obligations.UnmappedCodesAreRefused : Prop :=
  ∀ (cfg : Config), cfg.wf = true → ∀ (i k : Byte) (d : Word) (rest : HexString),
    ((∀ a : AckFlag, cfg.ackFlagCode a ≠ k) →
      frameDecode cfg (frameOf (hex2 (cfg.rspTypeCode .confChangeAck) ++ hex2 i ++ hex4 d ++ hex2 k ++ rest)) =
        .error .protocolError) ∧
    ((∀ m : SpecialMessage, cfg.specCode m ≠ k) →
      frameDecode cfg (frameOf (hex2 (cfg.rspTypeCode .specReceived) ++ hex2 k ++ rest)) = .error .protocolError)

/-- O21. Where a chunk passes the checks before the type and its type field reads as a value that is the code of no response type,
a request type code or any other, frameDecode raises UnknownResponseType carrying the value. -/
def Obligations.UnknownTypeIsRefused : Prop :=
  ∀ (cfg : Config) (f : List Byte) (t : Byte), frameAccepted cfg f = true → unhex2 f 1 = .ok t →
    (∀ ty : ResponseType, cfg.rspTypeCode ty ≠ t) → frameDecode cfg f = .error (.unknownResponseType t)

/-- O22. For every configuration and chunk, frameDecode returns a response or raises ProtocolError, UnknownResponseType with a
value that is no response type code, MalformedBytecode with a word that fromBytecode refuses, or UnexpectedResponse; a chunk
whose first byte is not SOH raises ProtocolError. -/
def Obligations.FrameDecodeErrors : Prop :=
  ∀ (cfg : Config) (f : List Byte),
    ((∃ r, frameDecode cfg f = .ok r) ∨ frameDecode cfg f = .error .protocolError ∨
      (∃ t, frameDecode cfg f = .error (.unknownResponseType t) ∧ ∀ ty : ResponseType, cfg.rspTypeCode ty ≠ t) ∨
      (∃ w, frameDecode cfg f = .error (.malformedBytecode w) ∧ fromBytecode cfg w = .error (.malformedBytecode w)) ∨
      frameDecode cfg f = .error .unexpectedResponse) ∧
    (f.head? ≠ some soh → frameDecode cfg f = .error .protocolError)

/-- O23. With CFG.verifyRxChecksum true, a chunk shorter than 6 bytes, without ETB at its end, or with an invalid checksum raises
ProtocolError, and any other chunk decodes as it does with verification off; with it off, the frames of all eight response
types decode to their fields with any checksum byte. That a body with a character that is no hex digit has no valid checksum
is log 19. -/
def Obligations.ChecksumVerificationOnlyFilters : Prop :=
  ∀ (cfg : Config) (f : List Byte),
    (cfg.verifyRxChecksum = true →
      (f.length < 6 ∨ f.getLast? ≠ some etb ∨ checksumValid f = false → frameDecode cfg f = .error .protocolError) ∧
      (6 ≤ f.length → f.getLast? = some etb → checksumValid f = true →
        frameDecode cfg f = frameDecode { cfg with verifyRxChecksum := false } f)) ∧
    (cfg.verifyRxChecksum = false → cfg.wf = true → ∀ k : Byte, BenchFramesDecode cfg (frameWith k))

/-- O24. correlated(t) holds exactly for DistinctSend, ConfQuery, ConfChange, SequenceEnd, ContinuousSend and FirmwareReset, and
the only type for which it fails is Send. -/
def Obligations.CorrelatedTypes : Prop :=
  ∀ t : RequestType,
    (t.correlated = true ↔
      t ∈ [RequestType.distinctSend, .confQuery, .confChange, .sequenceEnd, .continuousSend, .firmwareReset]) ∧
    (t.correlated = false ↔ t = .send)

/-- O25. Where the first input presented decodes to an instruction, the step is exec of that instruction on the state with the
input taken off the list, and nothing else. That inputs wait in a list is the model's (log 1). -/
def Obligations.StepRunsTheDecodedInstruction : Prop :=
  ∀ (s : State) (x : Encoded) (rest : List Input) (i : Instr),
    s.inputs = .present x :: rest → decode s.cfg x = .ok i → step s = exec i { s with inputs := rest }

/-- O26. Where the first input is a transport notification, the timer's expiry or an engine operation, the step is that operation
on the state with the input taken off; an engine with nothing presented stays as it is. That inputs wait in a list, and that
an empty list idles, is the model's (log 1). -/
def Obligations.StepRunsThePresentedOperation : Prop :=
  ∀ (s : State) (rest : List Input) (err : Option Nat) (v : BitVec 24),
    (s.inputs = [] → step s = .next s) ∧
    (s.inputs = .transportOpen :: rest → step s = .next (transportOpen { s with inputs := rest })) ∧
    (s.inputs = .transportClose err :: rest → step s = .next (transportClose err { s with inputs := rest })) ∧
    (s.inputs = .timerExpiry :: rest → step s = .next (timerExpiry { s with inputs := rest })) ∧
    (s.inputs = .reset :: rest → step s = .next (resetRequest { s with inputs := rest })) ∧
    (s.inputs = .close :: rest → step s = .next (closeSession { s with inputs := rest })) ∧
    (s.inputs = .isOpen :: rest → step s = .next (queryOpen { s with inputs := rest })) ∧
    (s.inputs = .setSearchAddress v :: rest → step s = .next (setSearchAddress v { s with inputs := rest }))

/-- O27. A chunk that fails to decode emits RxError with the error and the chunk; a word that fails to decode, or a descriptor
with an address out of range, raises the error to the caller. Nothing else is written, in any session state. The delivery on
RxError is D34's reading of the source; that a 16-bit word may be presented to run, and that its failure goes to the caller,
is the model's (log 2). -/
def Obligations.UndecodableInputsAreDelivered : Prop :=
  ∀ (s : State) (rest : List Input) (e : Error),
    (∀ f, s.inputs = .present (.chunk f) :: rest → frameDecode s.cfg f = .error e →
      step s = .next ({ s with inputs := rest }.emitting [.event (.rxError e f)])) ∧
    (∀ w, s.inputs = .present (.word w) :: rest → fromBytecode s.cfg w = .error e →
      step s = .next ({ s with inputs := rest }.emitting [.raised e])) ∧
    (∀ k c sh g v, s.inputs = .present (.descriptor k sh g v) :: rest → s.cfg.codeOf k = some c → addressOf sh g = .error e →
      step s = .next ({ s with inputs := rest }.emitting [.raised e]))

/-- O28. A step never faults (the type of faults is empty, log 28). It is refused, with the name, exactly where the first input is
a descriptor whose code is no member of the enumeration, or a request record (presented or given to frameEncode) without a
field its type needs, which R21 and R25 say cannot be presented. That a presented one is refused is the model's (log 14). -/
def Obligations.StepStopsOnlyOnTheUnpresentable : Prop :=
  ∀ s : State, (∀ f, step s ≠ .fault f) ∧
    (step s = .refused .codeNotInEnumeration ↔
      ∃ k sh g v rest, s.inputs = .present (.descriptor k sh g v) :: rest ∧ s.cfg.codeOf k = none) ∧
    (step s = .refused .requestFieldAbsent ↔ ∃ q rest,
      (s.inputs = .present (.request q) :: rest ∨ s.inputs = .codec (.frameEncode q) :: rest) ∧ lacksField q) ∧
    (∀ r, step s = .refused r → r = .codeNotInEnumeration ∨ r = .requestFieldAbsent)

/-- O29. Where the first input is a pure operation that ends in a next state, that state is the old one with the input taken off
and one output added: the result CodecOp.run gives, or the error it raises. Presenting the pure operations as inputs is the
model's (log 23), and so is that toBytecode and frameEncode construct the command they are given first (log 33). -/
def Obligations.PureOperationsTouchNoEngineState : Prop :=
  ∀ (s : State) (op : CodecOp) (rest : List Input), s.inputs = .codec op :: rest →
    (∀ r, op.run s.cfg = .ok r → step s = .next ({ s with inputs := rest }.emitting [.result r])) ∧
    (∀ e, op.run s.cfg = .error (.raised e) → step s = .next ({ s with inputs := rest }.emitting [.raised e]))

/-- O30. For every instruction and state exec answers a next state in which the configuration, the inputs still presented, the
session, the transport-open record, the boot timer, the open-emitted record and the DTR latch are unchanged; outputs are only
added; completion numbers only grow. -/
def Obligations.InstructionsCompleteAndFrame : Prop :=
  ∀ (i : Instr) (s : State), ∃ t, exec i s = .next t ∧ t.cfg = s.cfg ∧ t.inputs = s.inputs ∧
    t.eng.session = s.eng.session ∧ t.eng.transportOpen = s.eng.transportOpen ∧
    t.eng.bootTimerArmed = s.eng.bootTimerArmed ∧ t.eng.openEmitted = s.eng.openEmitted ∧
    t.eng.dtrAsserted = s.eng.dtrAsserted ∧ s.nextCompletion ≤ t.nextCompletion ∧
    ∃ os, t.outputs = s.outputs ++ os

/-- O31. With the default tables of R122 and R123, on a usable engine with no request in flight, for every address given or
absent: each level command (DirectArcPower with a level 0..254, GoToScene with a scene 0..15, the others with no value) takes
the in-flight slot as a default DistinctSend with one echo expected, transmits the frame with the word the rules give for it
and returns a new pending completion. Nothing else changes. -/
def Obligations.LevelCommandsTransmit : Prop :=
  ∀ (s : State) (a : Option DALIAddress), s.cfg.defaultTables → s.eng.usable = true → s.eng.inflight = none →
      (∀ v : Value, 0 ≤ v.toInt → v.toInt ≤ 254 →
        exec (.directArcPower a (some v)) s = .next (s.takingBare ⟨.directArcPower, some (a.getD .broadcast), some (v.setWidth 8)⟩
          (wordOf (addressByte (a.getD .broadcast)) (v.setWidth 8)))) ∧
      exec (.off a none) s = .next (s.takingInd .off a 0x00) ∧
      exec (.up a none) s = .next (s.takingInd .up a 0x01) ∧
      exec (.down a none) s = .next (s.takingInd .down a 0x02) ∧
      exec (.stepUp a none) s = .next (s.takingInd .stepUp a 0x03) ∧
      exec (.stepDown a none) s = .next (s.takingInd .stepDown a 0x04) ∧
      exec (.recallMaxLevel a none) s = .next (s.takingInd .recallMaxLevel a 0x05) ∧
      exec (.recallMinLevel a none) s = .next (s.takingInd .recallMinLevel a 0x06) ∧
      exec (.stepDownAndOff a none) s = .next (s.takingInd .stepDownAndOff a 0x07) ∧
      exec (.onAndStepUp a none) s = .next (s.takingInd .onAndStepUp a 0x08) ∧
      exec (.enableDAPCSequence a none) s = .next (s.takingInd .enableDAPCSequence a 0x09) ∧
      (∀ n : Value, 0 ≤ n.toInt → n.toInt ≤ 15 →
        exec (.goToScene a (some n)) s = .next (s.takingBlock .goToScene a 0x10 (n.setWidth 8)))

/-- O32. With the default tables of R122 and R123, on a usable engine with no request in flight, for every address given or
absent: each configuration command (the scene and group commands with a number 0..15, the others with no value) takes the in-
flight slot as a default DistinctSend with one echo expected, transmits the frame with the word the rules give for it and
returns a new pending completion. Nothing else changes. -/
def Obligations.ConfigurationCommandsTransmit : Prop :=
  ∀ (s : State) (a : Option DALIAddress), s.cfg.defaultTables → s.eng.usable = true → s.eng.inflight = none →
      exec (.reset a none) s = .next (s.takingInd .reset a 0x20) ∧
      exec (.storeActualLevelInDTR a none) s = .next (s.takingInd .storeActualLevelInDTR a 0x21) ∧
      exec (.storeDTRAsMaxLevel a none) s = .next (s.takingInd .storeDTRAsMaxLevel a 0x2A) ∧
      exec (.storeDTRAsMinLevel a none) s = .next (s.takingInd .storeDTRAsMinLevel a 0x2B) ∧
      exec (.storeDTRAsSystemFailureLevel a none) s = .next (s.takingInd .storeDTRAsSystemFailureLevel a 0x2C) ∧
      exec (.storeDTRAsPowerOnLevel a none) s = .next (s.takingInd .storeDTRAsPowerOnLevel a 0x2D) ∧
      exec (.storeDTRAsFadeTime a none) s = .next (s.takingInd .storeDTRAsFadeTime a 0x2E) ∧
      exec (.storeDTRAsFadeRate a none) s = .next (s.takingInd .storeDTRAsFadeRate a 0x2F) ∧
      (∀ n : Value, 0 ≤ n.toInt → n.toInt ≤ 15 →
        exec (.storeDTRasScene a (some n)) s = .next (s.takingBlock .storeDTRasScene a 0x40 (n.setWidth 8))) ∧
      (∀ n : Value, 0 ≤ n.toInt → n.toInt ≤ 15 →
        exec (.removeScene a (some n)) s = .next (s.takingBlock .removeScene a 0x50 (n.setWidth 8))) ∧
      (∀ n : Value, 0 ≤ n.toInt → n.toInt ≤ 15 →
        exec (.addToGroup a (some n)) s = .next (s.takingBlock .addToGroup a 0x60 (n.setWidth 8))) ∧
      (∀ n : Value, 0 ≤ n.toInt → n.toInt ≤ 15 →
        exec (.removeFromGroup a (some n)) s = .next (s.takingBlock .removeFromGroup a 0x70 (n.setWidth 8))) ∧
      exec (.storeDTRAsShortAddress a none) s = .next (s.takingInd .storeDTRAsShortAddress a 0x80) ∧
      exec (.enableWriteMemory a none) s = .next (s.takingInd .enableWriteMemory a 0x81)

/-- O33. With the default tables of R122 and R123, on a usable engine with no request in flight, for every address given or
absent: each query (QuerySceneLevel with a scene 0..15, the others with no value) takes the in-flight slot as a default
DistinctSend with one echo expected, transmits the frame with the word the rules give for it and returns a new pending
completion. Nothing else changes. -/
def Obligations.QueryCommandsTransmit : Prop :=
  ∀ (s : State) (a : Option DALIAddress), s.cfg.defaultTables → s.eng.usable = true → s.eng.inflight = none →
      exec (.queryStatus a none) s = .next (s.takingInd .queryStatus a 0x90) ∧
      exec (.queryControlGear a none) s = .next (s.takingInd .queryControlGear a 0x91) ∧
      exec (.queryLampFailure a none) s = .next (s.takingInd .queryLampFailure a 0x92) ∧
      exec (.queryLampPowerOn a none) s = .next (s.takingInd .queryLampPowerOn a 0x93) ∧
      exec (.queryLimitError a none) s = .next (s.takingInd .queryLimitError a 0x94) ∧
      exec (.queryResetState a none) s = .next (s.takingInd .queryResetState a 0x95) ∧
      exec (.queryMissingShortAddress a none) s = .next (s.takingInd .queryMissingShortAddress a 0x96) ∧
      exec (.queryVersionNumber a none) s = .next (s.takingInd .queryVersionNumber a 0x97) ∧
      exec (.queryContentDTR a none) s = .next (s.takingInd .queryContentDTR a 0x98) ∧
      exec (.queryDeviceType a none) s = .next (s.takingInd .queryDeviceType a 0x99) ∧
      exec (.queryPhysicalMinimum a none) s = .next (s.takingInd .queryPhysicalMinimum a 0x9A) ∧
      exec (.queryPowerFailure a none) s = .next (s.takingInd .queryPowerFailure a 0x9B) ∧
      exec (.queryContentDTR1 a none) s = .next (s.takingInd .queryContentDTR1 a 0x9C) ∧
      exec (.queryContentDTR2 a none) s = .next (s.takingInd .queryContentDTR2 a 0x9D) ∧
      exec (.queryActualLevel a none) s = .next (s.takingInd .queryActualLevel a 0xA0) ∧
      exec (.queryMaxLevel a none) s = .next (s.takingInd .queryMaxLevel a 0xA1) ∧
      exec (.queryMinLevel a none) s = .next (s.takingInd .queryMinLevel a 0xA2) ∧
      exec (.queryPowerOnLevel a none) s = .next (s.takingInd .queryPowerOnLevel a 0xA3) ∧
      exec (.querySystemFailureLevel a none) s = .next (s.takingInd .querySystemFailureLevel a 0xA4) ∧
      exec (.queryFadeTimeRate a none) s = .next (s.takingInd .queryFadeTimeRate a 0xA5) ∧
      (∀ n : Value, 0 ≤ n.toInt → n.toInt ≤ 15 →
        exec (.querySceneLevel a (some n)) s = .next (s.takingBlock .querySceneLevel a 0xB0 (n.setWidth 8))) ∧
      exec (.queryGroups0to7 a none) s = .next (s.takingInd .queryGroups0to7 a 0xC0) ∧
      exec (.queryGroups8to15 a none) s = .next (s.takingInd .queryGroups8to15 a 0xC1) ∧
      exec (.queryRandomAddressH a none) s = .next (s.takingInd .queryRandomAddressH a 0xC2) ∧
      exec (.queryRandomAddressM a none) s = .next (s.takingInd .queryRandomAddressM a 0xC3) ∧
      exec (.queryRandomAddressL a none) s = .next (s.takingInd .queryRandomAddressL a 0xC4) ∧
      exec (.readMemoryLocation a none) s = .next (s.takingInd .readMemoryLocation a 0xC5) ∧
      exec (.extendedVersionNumber a none) s = .next (s.takingInd .extendedVersionNumber a 0xFF)

/-- O34. With the default tables of R122 and R123, on a usable engine with no request in flight, for every address given or
absent: each special command (with no value, a byte 0..255 or a short address 0..63 as its format asks; an address given is
dropped) takes the in-flight slot as a default DistinctSend with one echo expected, transmits the frame with the word the
rules give for it and returns a new pending completion. Nothing else changes. -/
def Obligations.SpecialCommandsTransmit : Prop :=
  ∀ (s : State) (a : Option DALIAddress), s.cfg.defaultTables → s.eng.usable = true → s.eng.inflight = none →
      exec (.terminate a none) s = .next (s.takingSpecial .terminate 0xA1) ∧
      (∀ v : Value, 0 ≤ v.toInt → v.toInt ≤ 255 →
        exec (.dataTransferRegister a (some v)) s = .next (s.takingData .dataTransferRegister 0xA3 (v.setWidth 8))) ∧
      (∀ v : Value, 0 ≤ v.toInt → v.toInt ≤ 255 →
        exec (.initialise a (some v)) s = .next (s.takingData .initialise 0xA5 (v.setWidth 8))) ∧
      exec (.randomize a none) s = .next (s.takingSpecial .randomize 0xA7) ∧
      exec (.compare a none) s = .next (s.takingSpecial .compare 0xA9) ∧
      exec (.withdraw a none) s = .next (s.takingSpecial .withdraw 0xAB) ∧
      exec (.ping a none) s = .next (s.takingSpecial .ping 0xAD) ∧
      (∀ v : Value, 0 ≤ v.toInt → v.toInt ≤ 255 →
        exec (.searchAddressH a (some v)) s = .next (s.takingData .searchAddressH 0xB1 (v.setWidth 8))) ∧
      (∀ v : Value, 0 ≤ v.toInt → v.toInt ≤ 255 →
        exec (.searchAddressM a (some v)) s = .next (s.takingData .searchAddressM 0xB3 (v.setWidth 8))) ∧
      (∀ v : Value, 0 ≤ v.toInt → v.toInt ≤ 255 →
        exec (.searchAddressL a (some v)) s = .next (s.takingData .searchAddressL 0xB5 (v.setWidth 8))) ∧
      (∀ v : Value, 0 ≤ v.toInt → v.toInt ≤ 63 →
        exec (.programShortAddress a (some v)) s = .next (s.takingShort .programShortAddress 0xB7 (v.setWidth 8))) ∧
      (∀ v : Value, 0 ≤ v.toInt → v.toInt ≤ 63 →
        exec (.verifyShortAddress a (some v)) s = .next (s.takingShort .verifyShortAddress 0xB9 (v.setWidth 8))) ∧
      exec (.queryShortAddress a none) s = .next (s.takingSpecial .queryShortAddress 0xBB) ∧
      exec (.physicalSelection a none) s = .next (s.takingSpecial .physicalSelection 0xBD) ∧
      (∀ v : Value, 0 ≤ v.toInt → v.toInt ≤ 255 →
        exec (.enableDeviceOfType a (some v)) s = .next (s.takingData .enableDeviceOfType 0xC1 (v.setWidth 8))) ∧
      (∀ v : Value, 0 ≤ v.toInt → v.toInt ≤ 255 →
        exec (.setDTR1 a (some v)) s = .next (s.takingData .setDTR1 0xC3 (v.setWidth 8))) ∧
      (∀ v : Value, 0 ≤ v.toInt → v.toInt ≤ 255 →
        exec (.setDTR2 a (some v)) s = .next (s.takingData .setDTR2 0xC5 (v.setWidth 8))) ∧
      (∀ v : Value, 0 ≤ v.toInt → v.toInt ≤ 255 →
        exec (.writeMemoryLocation a (some v)) s = .next (s.takingData .writeMemoryLocation 0xC7 (v.setWidth 8)))

/-- O35. On a usable engine, with or without a request in flight, a Send whose command construct accepts transmits its frame (type
01 under R8, priority, 10, word), resolves a new completion with no response and returns it; the slot, the sequencer and all
else are unchanged. -/
def Obligations.PlainSendFiresAtOnce : Prop :=
  ∀ (s : State) (d : CommandDesc) (p : Option Value) (c : DALICommand), s.cfg.wf = true → s.eng.usable = true →
    d.construct s.cfg = .ok c →
    exec (.send d p) s = .next { s with
      nextCompletion := s.nextCompletion + 1
      outputs := s.outputs ++
        [.tx (frameOf (hex2 0x01 ++ hex2 (priorityByte p) ++ hex2 0x10 ++ hex4 (toBytecode s.cfg c))),
          .resolve s.nextCompletion .nothing, .returned s.nextCompletion] }

/-- O36. On a usable engine with no request in flight with any tables: each of the 72 commands whose operands construct accepts
takes the slot as a default DistinctSend with one echo expected and transmits its word; each of the five requests (its command
accepted by construct) takes the slot with two echoes expected if doubleSend is true and one otherwise, transmits the frame
its rule gives and returns a new pending completion; nothing else changes. -/
def Obligations.CorrelatedRequestsAreTaken : Prop :=
  ∀ (s : State) (d : CommandDesc) (c : DALICommand) (p : Option Value) (ds q : Option Bool) (i : Byte) (x : Word),
    s.eng.usable = true → s.eng.inflight = none → d.construct s.cfg = .ok c →
    let echoes := if ds = some true then 2 else 1
    (∀ j : Instr, j.presented = .command d → exec j s = .next (s.takingBare c (toBytecode s.cfg c))) ∧
    exec (.distinctSend d p ds q) s = .next (s.taking (.distinctSend c p ds q) echoes
      (hex2 (s.cfg.reqTypeCode .distinctSend) ++ hex2 (priorityByte p) ++ hex2 0x10 ++ hex4 (toBytecode s.cfg c) ++
        hex2 (BitVec.ofNat 8 ((if ds = some true then 1 else 0) + (if q = some true then 2 else 0))))) ∧
    exec (.continuousSend d p ds) s = .next (s.taking (.continuousSend c p ds) echoes
      (hex2 (s.cfg.reqTypeCode .continuousSend) ++ hex2 (priorityByte p) ++ hex2 0x10 ++ hex4 (toBytecode s.cfg c))) ∧
    exec (.confQuery i ds) s = .next (s.taking (.confQuery i ds) echoes
      (hex2 (s.cfg.reqTypeCode .confQuery) ++ hex2 i)) ∧
    exec (.confChange i x ds) s = .next (s.taking (.confChange i x ds) echoes
      (hex2 (s.cfg.reqTypeCode .confChange) ++ hex2 i ++ (s.cfg.confDataHex i x).digits)) ∧
    exec (.sequenceEnd ds) s = .next (s.taking (.sequenceEnd ds) echoes
      (hex2 (s.cfg.reqTypeCode .sequenceEnd) ++ hex2 0x00))

/-- O37. On a usable, idle engine FirmwareReset raises ForbiddenOperation, transmits nothing and leaves the slot taken with a
completion no one holds; reset() then rejects that completion with Cancelled and frees the slot. -/
def Obligations.FirmwareResetIsForbidden : Prop :=
  ∀ (s : State) (ds : Option Bool), s.eng.usable = true → s.eng.idle = true →
    exec (.firmwareReset ds) s = .next { s with
      eng := { s.eng with inflight := some ⟨.firmwareReset ds, if ds = some true then 2 else 1, s.nextCompletion⟩ }
      nextCompletion := s.nextCompletion + 1
      outputs := s.outputs ++ [.raised .forbiddenOperation] } ∧
    ∀ t, exec (.firmwareReset ds) s = .next t →
      resetRequest t = { s with
        nextCompletion := s.nextCompletion + 1
        outputs := s.outputs ++ [.raised .forbiddenOperation, .reject s.nextCompletion .cancelled] }

/-- O38. On a usable engine with a request in flight, every command and every request but Send whose operands construct accepts,
FirmwareReset included, raises RequestAlreadyInFlight: nothing is transmitted, queued or written. -/
def Obligations.BusySlotRefusesCorrelated : Prop :=
  ∀ (s : State) (i : Instr) (f : InFlight), s.eng.usable = true → s.eng.inflight = some f →
    i.correlated = true → i.constructs s.cfg → exec i s = .next (s.emitting [.raised .requestAlreadyInFlight])

/-- O39. In every state, an instruction whose command construct refuses raises that ValidationError to the caller; nothing is sent
and nothing is written. That constructing and sending are one step of the model is log 15. -/
def Obligations.InvalidOperandsRaise : Prop :=
  ∀ (s : State) (i : Instr) (d : CommandDesc) (e : Error), i.operands = some d → d.construct s.cfg = .error e →
    (∃ k, e = .validationError k) ∧ exec i s = .next (s.emitting [.raised e])

/-- O40. Where the session is not usable, every command and every request, FirmwareReset and a second correlated request included,
resolves a new completion with SpecReceived ChannelNotOpen and returns it: nothing is transmitted and no engine state is
written. -/
def Obligations.UnusableSessionAnswersNotOpen : Prop :=
  ∀ (s : State) (i : Instr), s.eng.usable = false → i.sends = true → i.constructs s.cfg →
    exec i s = .next s.answeringNotOpen

/-- O41. In every session state, Response, NoResponse, ConfResponse, ConfChangeAck, SpecReceived and FirmwareResetAck emit their
typed event and then the catch-all with the same record; no state is read or written, the request in flight included. -/
def Obligations.UnsolicitedFramesBecomeEvents : Prop :=
  ∀ s : State,
    (∀ r, exec (.response r) s =
      .next (s.emitting [.event (.evResponse (.response r)), .event (.evAnyResponse (.response r))])) ∧
    (∀ r, exec (.noResponse r) s =
      .next (s.emitting [.event (.evNoResponse (.noResponse r)), .event (.evAnyResponse (.noResponse r))])) ∧
    (∀ i d, exec (.confResponse i d) s =
      .next (s.emitting [.event (.evConfResponse (.confResponse i d)), .event (.evAnyResponse (.confResponse i d))])) ∧
    (∀ i d k, exec (.confChangeAck i d k) s =
      .next (s.emitting
        [.event (.evConfChangeAck (.confChangeAck i d k)), .event (.evAnyResponse (.confChangeAck i d k))])) ∧
    (∀ m, exec (.specReceived m) s =
      .next (s.emitting [.event (.evSpecReceived (.specReceived m)), .event (.evAnyResponse (.specReceived m))])) ∧
    exec .firmwareResetAck s =
      .next (s.emitting [.event (.evFirmwareResetAck .firmwareResetAck), .event (.evAnyResponse .firmwareResetAck)])

/-- O42. For DistinctResponse and DistinctNoResponse with any content: with no request in flight nothing changes; with two echoes
remaining the count becomes one and nothing else changes; with one remaining and no sequencer running the slot is freed and
the completion resolves with this frame. No event is emitted. -/
def Obligations.DistinctFramesCountEchoes : Prop :=
  ∀ (s : State) (i : Instr) (r : FoxtronResponse),
    i.distinctFrame r →
    (s.eng.inflight = none → exec i s = .next s) ∧
    (∀ f, s.eng.inflight = some f → f.remainingEchoes = 2 →
      exec i s = .next { s with eng := { s.eng with inflight := some { f with remainingEchoes := 1 } } }) ∧
    (∀ f, s.eng.inflight = some f → f.remainingEchoes = 1 → s.eng.seq = none →
      exec i s = .next { s with
        eng := { s.eng with inflight := none }
        outputs := s.outputs ++ [.resolve f.completion (.response r)] })

/-- O43. With the sequencer running and one echo remaining on a usable engine, a distinct frame resolves the inner completion, is
recorded, and in the same step: in phase H the middle byte goes out and the phase becomes M; in phase M the low byte goes out
and the phase becomes L; in phase L the slot is free, the sequencer idle and the caller's completion resolves with the
responses in order. -/
def Obligations.SequencerAdvancesOnTheEcho : Prop :=
  ∀ (s : State) (i : Instr) (r : FoxtronResponse) (f : InFlight) (q : Sequencer),
    i.distinctFrame r →
    s.cfg.wf = true → s.eng.usable = true → s.eng.inflight = some f → f.remainingEchoes = 1 → s.eng.seq = some q →
    let next (p : SeqPhase) (c : Code) (b : Byte) : State := { s with
      eng := { s.eng with
        inflight := some ⟨.distinctSend ⟨c, none, some b⟩ (some 0) (some false) (some false), 1, s.nextCompletion⟩
        seq := some ⟨p, q.value, q.results ++ [r], q.completion⟩ }
      nextCompletion := s.nextCompletion + 1
      outputs := s.outputs ++
        [.resolve f.completion (.response r), .tx (frameOf (barePayload s.cfg (searchWord s.cfg c b)))] }
    (q.phase = .h → exec i s = .next (next .m .searchAddressM (q.value.extractLsb' 8 8))) ∧
    (q.phase = .m → exec i s = .next (next .l .searchAddressL (q.value.extractLsb' 0 8))) ∧
    (q.phase = .l → exec i s = .next { s with
      eng := { s.eng with inflight := none, seq := none }
      outputs := s.outputs ++
        [.resolve f.completion (.response r), .resolve q.completion (.responses (q.results ++ [r]))] })

/-- O44. From a usable, idle engine: a DistinctSend with doubleSend, then any two distinct frames, each of either type. After the
first frame nothing has been output and the request is still in flight; the second resolves the completion with its own record
and frees the slot. -/
def Obligations.DoubleSendWaitsForTwoEchoes : Prop :=
  ∀ (s : State) (d : CommandDesc) (c : DALICommand) (p : Option Value) (q : Option Bool) (i j : Instr)
      (x y : FoxtronResponse),
    s.eng.usable = true → s.eng.idle = true → d.construct s.cfg = .ok c → i.distinctFrame x →
    j.distinctFrame y →
    ∃ t u v, exec (.distinctSend d p (some true) q) s = .next t ∧ exec i t = .next u ∧
      exec j u = .next v ∧
      u.outputs = t.outputs ∧ u.eng.inflight = some ⟨.distinctSend c p (some true) q, 1, s.nextCompletion⟩ ∧
      v.outputs = t.outputs ++ [.resolve s.nextCompletion (.response y)] ∧ v.eng = s.eng

/-- O45. A second open notification, or one after Destroyed, does nothing. Otherwise the transport is recorded open, and: with no
boot method SessionOpen is emitted if the configuration says so and it was not; with WaitOnly the settle timer is armed and
started; with SetDTR the DTR line is asserted first. The session is not written. -/
def Obligations.TransportOpenByBootMethod : Prop :=
  ∀ s : State,
    (s.eng.session = .destroyed ∨ s.eng.transportOpen = true → transportOpen s = s) ∧
    (s.eng.session ≠ .destroyed → s.eng.transportOpen = false →
      (s.cfg.bootMethod = .noBoot → s.cfg.emitOpenWithoutBoot = true → s.eng.openEmitted = false →
        transportOpen s = { s with
          eng := { s.eng with transportOpen := true, openEmitted := true }
          outputs := s.outputs ++ [.event .sessionOpen] }) ∧
      (s.cfg.bootMethod = .noBoot → s.cfg.emitOpenWithoutBoot = false ∨ s.eng.openEmitted = true →
        transportOpen s = { s with eng := { s.eng with transportOpen := true } }) ∧
      (s.cfg.bootMethod = .waitOnly →
        transportOpen s = { s with
          eng := { s.eng with transportOpen := true, bootTimerArmed := true }
          outputs := s.outputs ++ [.startTimer s.cfg.bootSettleTime] }) ∧
      (s.cfg.bootMethod = .setDTR →
        transportOpen s = { s with
          eng := { s.eng with transportOpen := true, bootTimerArmed := true, dtrAsserted := true }
          outputs := s.outputs ++ [.setLine true, .startTimer s.cfg.bootSettleTime] }))

/-- O46. An expiry with the timer not armed does nothing. Armed, the timer is disarmed, the session becomes Running and
SessionOpen is emitted unless it was; where the invariant holds, usable becomes true in this step. -/
def Obligations.TimerExpiryOpensTheSession : Prop :=
  ∀ s : State,
    (s.eng.bootTimerArmed = false → timerExpiry s = s) ∧
    (s.eng.bootTimerArmed = true →
      (s.eng.openEmitted = false →
        timerExpiry s = { s with
          eng := { s.eng with bootTimerArmed := false, session := .running, openEmitted := true }
          outputs := s.outputs ++ [.event .sessionOpen] }) ∧
      (s.eng.openEmitted = true →
        timerExpiry s = { s with eng := { s.eng with bootTimerArmed := false, session := .running } }) ∧
      (s.Inv → s.eng.usable = false ∧ (timerExpiry s).eng.usable = true))

/-- O47. In a destroyed session nothing happens. Otherwise the session becomes Destroyed, the transport closed, the timer
disarmed; a request in flight is rejected with Cancelled and the slot freed, then the sequencer's completion if it runs;
SessionClosed with the error comes last. -/
def Obligations.TransportCloseDestroys : Prop :=
  ∀ (s : State) (err : Option Nat),
    (s.eng.session = .destroyed → transportClose err s = s) ∧
    (s.eng.session ≠ .destroyed →
      let closed : Engine := { s.eng with session := .destroyed, transportOpen := false, bootTimerArmed := false }
      (s.eng.inflight = none →
        transportClose err s = { s with eng := closed, outputs := s.outputs ++ [.event (.sessionClosed err)] }) ∧
      (∀ f, s.eng.inflight = some f → s.eng.seq = none →
        transportClose err s = { s with
          eng := { closed with inflight := none }
          outputs := s.outputs ++ [.reject f.completion .cancelled, .event (.sessionClosed err)] }) ∧
      (∀ f q, s.eng.inflight = some f → s.eng.seq = some q →
        transportClose err s = { s with
          eng := { closed with inflight := none, seq := none }
          outputs := s.outputs ++
            [.reject f.completion .cancelled, .reject q.completion .cancelled, .event (.sessionClosed err)] }))

/-- O48. With no request in flight reset() does nothing. Otherwise the slot is freed and its completion rejected with Cancelled,
and the sequencer, if it runs, is ended and its completion rejected too; the session, the timer, the DTR latch are not written
and nothing is transmitted. -/
def Obligations.ResetFreesTheSlot : Prop :=
  ∀ s : State,
    (s.eng.inflight = none → resetRequest s = s) ∧
    (∀ f, s.eng.inflight = some f → s.eng.seq = none →
      resetRequest s = { s with
        eng := { s.eng with inflight := none }
        outputs := s.outputs ++ [.reject f.completion .cancelled] }) ∧
    (∀ f q, s.eng.inflight = some f → s.eng.seq = some q →
      resetRequest s = { s with
        eng := { s.eng with inflight := none, seq := none }
        outputs := s.outputs ++ [.reject f.completion .cancelled, .reject q.completion .cancelled] })

/-- O49. close() strobes the transport's close and isOpen outputs the usable predicate, which holds exactly when the transport is
recorded open and the session is Running; no engine state is written. -/
def Obligations.CloseAndIsOpenWriteNoState : Prop :=
  ∀ s : State, closeSession s = s.emitting [.closeTransport] ∧ queryOpen s = s.emitting [.isOpen s.eng.usable] ∧
    (s.eng.usable = true ↔ s.eng.transportOpen = true ∧ s.eng.session = .running)

/-- O50. While a sequence runs it raises RequestAlreadyInFlight. On a usable engine with the slot free the high byte goes out and
the sequence starts in phase H; with the slot taken the returned completion is rejected at once and nothing is transmitted. On
an unusable session the three inner completions and then the caller's resolve at once with synthetic responses. The inner
numbers are the model's (log 10), and so is that the inner error is not raised to the caller too (log 26). -/
def Obligations.SetSearchAddressStarts : Prop :=
  ∀ (s : State) (v : BitVec 24),
    let n := s.nextCompletion
    let no : FoxtronResponse := .specReceived .channelNotOpen
    (∀ q, s.eng.seq = some q → setSearchAddress v s = s.emitting [.raised .requestAlreadyInFlight]) ∧
    (s.eng.seq = none →
      (s.cfg.wf = true → s.eng.usable = true → s.eng.inflight = none →
        setSearchAddress v s = { s with
          eng := { s.eng with
            inflight := some ⟨.distinctSend ⟨.searchAddressH, none, some (v.extractLsb' 16 8)⟩ (some 0) (some false)
              (some false), 1, n + 1⟩
            seq := some ⟨.h, v, [], n⟩ }
          nextCompletion := n + 2
          outputs := s.outputs ++ [.tx (frameOf (barePayload s.cfg (searchWord s.cfg .searchAddressH (v.extractLsb' 16 8)))), .returned n] }) ∧
      (∀ f, s.eng.usable = true → s.eng.inflight = some f →
        setSearchAddress v s = { s with
          nextCompletion := n + 1
          outputs := s.outputs ++ [.reject n .requestAlreadyInFlight, .returned n] }) ∧
      (s.eng.usable = false →
        setSearchAddress v s = { s with
          nextCompletion := n + 4
          outputs := s.outputs ++
            [.resolve (n + 1) (.response no), .resolve (n + 2) (.response no), .resolve (n + 3) (.response no),
              .resolve n (.responses [no, no, no]), .returned n] }))

/-- O51. From a usable, idle engine: setSearchAddress(v) and three distinct frames, each of either type, transmit exactly the
words of SearchAddressH v[23:16], SearchAddressM v[15:8] and SearchAddressL v[7:0] in order, resolve the caller's completion
with the three frames in order, and leave the engine state as it was. -/
def Obligations.SearchAddressGoesOutInThreeBytes : Prop :=
  ∀ (s : State) (v : BitVec 24) (i j k : Instr) (x y z : FoxtronResponse), s.cfg.wf = true → s.eng.usable = true → s.eng.idle = true →
    i.distinctFrame x → j.distinctFrame y → k.distinctFrame z →
    ∃ t u w, exec i (setSearchAddress v s) = .next t ∧ exec j t = .next u ∧
      exec k u = .next w ∧ w.eng = s.eng ∧
      transmitted w.outputs = transmitted s.outputs ++
        [frameOf (barePayload s.cfg (searchWord s.cfg .searchAddressH (v.extractLsb' 16 8))),
          frameOf (barePayload s.cfg (searchWord s.cfg .searchAddressM (v.extractLsb' 8 8))),
          frameOf (barePayload s.cfg (searchWord s.cfg .searchAddressL (v.extractLsb' 0 8)))] ∧
      w.outputs.getLast? = some (.resolve s.nextCompletion
        (.responses [x, y, z]))

/-- O52. For every configuration: the session is Running with no boot method and WaitingForBoot otherwise; the transport is not
open, the timer not armed, SessionOpen not emitted, DTR not asserted, the slot free, the sequencer idle, usable false. The
machine's reset state is that of its configuration (whose OPEN values are log 4 and log 5, and no clause here). -/
def Obligations.ConstructionState : Prop :=
  (∀ cfg : Config,
    (State.construct cfg).cfg = cfg ∧
    (cfg.bootMethod = .noBoot → (State.construct cfg).eng.session = .running) ∧
    (cfg.bootMethod ≠ .noBoot → (State.construct cfg).eng.session = .waitingForBoot) ∧
    (State.construct cfg).eng.transportOpen = false ∧ (State.construct cfg).eng.bootTimerArmed = false ∧
    (State.construct cfg).eng.openEmitted = false ∧ (State.construct cfg).eng.dtrAsserted = false ∧
    (State.construct cfg).eng.inflight = none ∧ (State.construct cfg).eng.seq = none ∧
    (State.construct cfg).eng.usable = false) ∧
  State.reset = State.construct State.reset.cfg

/-- O53. The engine invariant, single firing, well-framed transmissions and the session-event rule hold of State.construct of
every configuration, State.reset among them. -/
def Obligations.InvariantsHoldAtConstruction : Prop :=
  ∀ cfg : Config, (State.construct cfg).Inv ∧ (State.construct cfg).FireOnce ∧ (State.construct cfg).FramesSound ∧
    (State.construct cfg).MarksSound

/-- O54. From every state that meets the invariant (R37 (a) to (d) and (f), with what makes it inductive), a step that answers a
next state leads to one that meets it; the configuration is unchanged; a destroyed session stays destroyed (R37 (e)). -/
def Obligations.EveryStepKeepsTheEngineInvariant : Prop :=
  ∀ s t : State, s.Inv → step s = .next t →
    t.Inv ∧ t.cfg = s.cfg ∧ (s.eng.session = .destroyed → t.eng.session = .destroyed)

/-- O55. From every state in which no completion has fired twice and the pending ones are different and unfired, every step that
answers a next state leads to such a state again. That completions are numbers is the model's (log 10). -/
def Obligations.EveryCompletionFiresAtMostOnce : Prop :=
  ∀ s t : State, s.FireOnce → step s = .next t → t.FireOnce

/-- O56. From every state whose transmitted frames all start with SOH, end with ETB, hold uppercase hex between, an even-length
payload and a valid checksum, a step that answers a next state leads to such a state. -/
def Obligations.EveryTransmissionIsWellFramed : Prop :=
  ∀ s t : State, s.FramesSound → step s = .next t → t.FramesSound

/-- O57. From every state that meets the engine invariant and in which the session events are at most one SessionOpen, then at
most one SessionClosed, in step with the open-emitted record and the destroyed session, a step that answers a next state leads
to such a state. -/
def Obligations.SessionEventsAtMostOnce : Prop :=
  ∀ s t : State, s.Inv → s.MarksSound → step s = .next t → t.MarksSound

/-- O58. In every step that answers a next state at most one frame is transmitted, none when the session was not usable, and none
but for an input that decodes to a command or a request, one that decodes to a distinct frame with the sequencer running, or
setSearchAddress with no sequence running. -/
def Obligations.TransmitsOnlyWhenUsable : Prop :=
  ∀ s t : State, step s = .next t →
    ∃ fs, transmitted t.outputs = transmitted s.outputs ++ fs ∧ fs.length ≤ 1 ∧
      (fs ≠ [] → s.eng.usable = true ∧
        ∃ x rest, s.inputs = x :: rest ∧
          ((∃ e i, x = .present e ∧ decode s.cfg e = .ok i ∧
              (i.sends = true ∨ ((∃ r, i.distinctFrame r) ∧ ∃ q, s.eng.seq = some q))) ∨
            ((∃ v, x = .setSearchAddress v) ∧ s.eng.seq = none)))

/-- O59. From every state that meets the invariant and is destroyed, every step that answers a next state leaves the engine state
exactly as it is, transmits nothing and emits no session event. -/
def Obligations.DestroyedIsAbsorbing : Prop :=
  ∀ s t : State, s.Inv → s.eng.session = .destroyed → step s = .next t →
    t.eng = s.eng ∧ t.eng.usable = false ∧ t.eng.inflight = none ∧
    transmitted t.outputs = transmitted s.outputs ∧ sessionMarks t.outputs = sessionMarks s.outputs

/-- O60. From every state that meets the invariant: a step changes the session only from WaitingForBoot to Running at timerExpiry
or to Destroyed at transportClose; the transport record changes only at transportOpen and transportClose; the DTR latch and
the open-emitted record, once set, stay set. -/
def Obligations.SessionTransitions : Prop :=
  ∀ s t : State, s.Inv → step s = .next t →
    (t.eng.session = s.eng.session ∨
      (s.eng.session = .waitingForBoot ∧ t.eng.session = .running ∧ ∃ rest, s.inputs = .timerExpiry :: rest) ∨
      (t.eng.session = .destroyed ∧ ∃ err rest, s.inputs = .transportClose err :: rest)) ∧
    (t.eng.transportOpen = s.eng.transportOpen ∨
      (t.eng.transportOpen = true ∧ ∃ rest, s.inputs = .transportOpen :: rest) ∨
      (t.eng.transportOpen = false ∧ ∃ err rest, s.inputs = .transportClose err :: rest)) ∧
    (s.eng.dtrAsserted = true → t.eng.dtrAsserted = true) ∧ (s.eng.openEmitted = true → t.eng.openEmitted = true)

end
end

