-- ==== Sys2Proof/Laws/Config.lean ====
section
/-! SUPPORT. The plain data of a configuration is no restriction: every function of an index and a datum to 2 or 4 characters is
the `confDataHex` of some layout (46_foxtron_requests R289; log 8), and every assignment of rows to the indirect and the
special commands is that of some pair of tables (40_dali_codec_core R122, R123; log 7). -/

namespace Sys2Proof

/-- The layout that lists every pair of arguments. -/
def ConfLayout.ofFunction (F : Byte → Word → ConfHex) : ConfLayout :=
  ⟨(List.range 256).flatMap fun i => (List.range 65536).map fun d =>
    ((BitVec.ofNat 8 i, BitVec.ofNat 16 d), F (BitVec.ofNat 8 i) (BitVec.ofNat 16 d))⟩

/-- A lookup in a list whose entries all agree with a function finds the function's value, if the key is listed. -/
theorem lookup_of_agrees {α β : Type} [BEq α] [LawfulBEq α] (g : α → β) (k : α) :
    ∀ l : List (α × β), (∀ e ∈ l, e.2 = g e.1) → k ∈ l.map (·.1) → l.lookup k = some (g k)
  | [], _, hk => by simp at hk
  | (a, b) :: l, h, hk => by
    by_cases hak : k = a
    · subst hak
      have := h (k, b) (by simp)
      simp [List.lookup, ← this]
    · have hne : (k == a) = false := by simpa using hak
      have hk' : k ∈ l.map (·.1) := by simpa [hak] using hk
      simp only [List.lookup, hne]
      exact lookup_of_agrees g k l (fun e he => h e (by simp [he])) hk'

/-- Every `CFG.confDataHex` the spec allows is that of a configuration. -/
theorem confDataHex_of_function (cfg : Config) (F : Byte → Word → ConfHex) (i : Byte) (d : Word) :
    { cfg with confLayout := ConfLayout.ofFunction F }.confDataHex i d = F i d := by
  have h : (ConfLayout.ofFunction F).table.lookup (i, d) = some (F i d) := by
    refine lookup_of_agrees (fun p => F p.1 p.2) (i, d) _ ?_ ?_
    · intro e he
      simp only [ConfLayout.ofFunction, List.mem_flatMap, List.mem_map] at he
      obtain ⟨_, _, _, _, rfl⟩ := he
      rfl
    · simp only [ConfLayout.ofFunction, List.mem_map, List.mem_flatMap, List.mem_range]
      refine ⟨((i, d), F i d), ⟨i.toNat, i.isLt, d.toNat, d.isLt, ?_⟩, rfl⟩
      simp
  simp [Config.confDataHex, h]

/-- Every member of the enumeration is listed (R121). -/
@[simp] theorem Code.mem_all (c : Code) : c ∈ Code.all := by cases c <;> decide

/-- The tables that list a row for every code. -/
def Config.withRows (cfg : Config) (F : Code → IndirectRow) (G : Code → SpecialRow) : Config :=
  { cfg with indirectOpcodes := ⟨Code.all.map fun c => (c, F c)⟩, specialCodes := ⟨Code.all.map fun c => (c, G c)⟩ }

/-- Every assignment of rows is that of a configuration's tables. -/
theorem row_of_function (cfg : Config) (F : Code → IndirectRow) (G : Code → SpecialRow) (c : Code) :
    (cfg.withRows F G).row c =
      match c.defaultRow with
      | .level => .level
      | .indirect _ => .indirect (F c)
      | .special _ => .special (G c) := by
  have h {β : Type} (f : Code → β) : (Code.all.map fun c => (c, f c)).lookup c = some (f c) :=
    lookup_of_agrees f c _ (by simp) (by simp)
  cases hd : c.defaultRow <;> simp [Config.row, Config.withRows, h, hd]

/-- With no row listed, the tables are the default ones. -/
theorem defaultTables_of_nil {cfg : Config} (h : cfg.indirectOpcodes = ⟨[]⟩) (h' : cfg.specialCodes = ⟨[]⟩) :
    cfg.defaultTables := by
  intro c
  simp only [Config.row, h, h']
  cases c.defaultRow <;> rfl

/-- The kind of a code's row is that of its default row. -/
theorem row_level {cfg : Config} {c : Code} (h : cfg.row c = .level) : c = .directArcPower := by
  revert h; cases c <;> simp [Config.row, Code.defaultRow]

/-- A special command is a row of `CFG.specialCodes`. -/
theorem isSpecial_iff (cfg : Config) (c : Code) : c.isSpecial = true ↔ ∃ r, cfg.row c = .special r := by
  cases h : c.defaultRow <;> simp [Code.isSpecial, Config.row, h]

end Sys2Proof
end

