-- ==== Sys2Proof/Laws/Codec.lean ====
section
/-! SUPPORT. The codec's shared operations: hex digits, a frame's positions, the code maps and the two tables under R8,
`construct`. -/

namespace Sys2Proof

/-- A digit read back from its character. -/
@[simp] theorem hexDigit_hexChar (d : Nibble) : hexDigit (hexChar d) = some d := by revert d; decide

@[simp] theorem hex2_length (b : Byte) : (hex2 b).length = 2 := rfl

@[simp] theorem hex4_length (w : Word) : (hex4 w).length = 4 := rfl

@[simp] theorem checksum_length (p : HexString) : (checksum p).length = 2 := rfl

@[simp] theorem frameOf_length (p : HexString) : (frameOf p).length = p.length + 4 := by simp [frameOf]

/-- A position of a frame's payload or checksum. -/
theorem digitAt_frameOf (p : HexString) (i : Nat) (h : i < p.length + 2) :
    digitAt (frameOf p) (i + 1) = (p ++ checksum p)[i]? := by
  have hl : i < ((p ++ checksum p).map hexChar).length := by simp only [List.length_map, List.length_append, checksum_length]; omega
  simp only [digitAt, frameOf, List.getElem?_cons_succ]
  rw [List.getElem?_append_left hl, List.getElem?_map]
  cases (p ++ checksum p)[i]? <;> simp

/-- The two digits of a byte give the byte back. -/
theorem hex2_value (b : Byte) : (b.extractLsb' 4 4 ++ b.extractLsb' 0 4 : BitVec (4 + 4)) = b := by revert b; decide

/-- Looking a code up in an injective map finds the name it is the code of. -/
theorem find_code {α : Type} (f : α → Byte) (a : α) : ∀ l : List α, (l.map f).Nodup → a ∈ l → l.find? (fun x => f x == f a) = some a
  | [], _, ha => by simp at ha
  | b :: l, hn, ha => by
    simp only [List.map_cons, List.nodup_cons] at hn
    by_cases hb : f b = f a
    · rcases List.mem_cons.1 ha with rfl | ha
      · simp
      · exact absurd (hb ▸ List.mem_map_of_mem ha) hn.1
    · have hne : (f b == f a) = false := by simpa using hb
      rcases List.mem_cons.1 ha with rfl | ha
      · simp at hb
      · simp only [List.find?_cons, hne]
        exact find_code f a l hn.2 ha

theorem rspTypeOf_code {cfg : Config} (h : cfg.wf = true) (t : ResponseType) : rspTypeOf cfg (cfg.rspTypeCode t) = some t := by
  simp only [Config.wf, Bool.and_eq_true, decide_eq_true_eq] at h
  exact find_code cfg.rspTypeCode t _ h.1.1.1.1.1.2 (by cases t <;> decide)

theorem ackFlagOf_code {cfg : Config} (h : cfg.wf = true) (t : AckFlag) : ackFlagOf cfg (cfg.ackFlagCode t) = some t := by
  simp only [Config.wf, Bool.and_eq_true, decide_eq_true_eq] at h
  exact find_code cfg.ackFlagCode t _ h.1.1.1.1.2 (by cases t <;> decide)

theorem specOf_code {cfg : Config} (h : cfg.wf = true) (t : SpecialMessage) : specOf cfg (cfg.specCode t) = some t := by
  simp only [Config.wf, Bool.and_eq_true, decide_eq_true_eq] at h
  exact find_code cfg.specCode t _ h.1.1.1.2 (by cases t <;> decide)

/-- Everything `construct` can do (40 R128). -/
theorem construct_cases (cfg : Config) (c : Code) (a : Option DALIAddress) (v : Option Value) :
    (valueRange cfg c = none ∧ v = none ∧ construct cfg c a v = .ok ⟨c, normalAddress c a, none⟩) ∨
    (valueRange cfg c = none ∧ v ≠ none ∧ construct cfg c a v = .error (.validationError .unexpectedValue)) ∨
    (valueRange cfg c ≠ none ∧ v = none ∧ construct cfg c a v = .error (.validationError .missingValue)) ∨
    (∃ lo hi x, valueRange cfg c = some (lo, hi) ∧ v = some x ∧
      ((((lo : Int) ≤ x.toInt ∧ x.toInt ≤ hi) ∧ construct cfg c a v = .ok ⟨c, normalAddress c a, some (x.setWidth 8)⟩) ∨
        ((x.toInt < lo ∨ hi < x.toInt) ∧ construct cfg c a v = .error (.validationError (.valueOutOfRange lo hi))))) := by
  cases hr : valueRange cfg c with
  | none => cases v <;> simp [construct, hr]
  | some r =>
    obtain ⟨lo, hi⟩ := r
    cases v with
    | none => simp [construct, hr]
    | some x =>
      refine .inr (.inr (.inr ⟨lo, hi, x, rfl, rfl, ?_⟩))
      by_cases h : x.toInt < lo ∨ hi < x.toInt
      · exact .inr ⟨h, by simp only [construct, hr]; rw [if_pos h]⟩
      · exact .inl ⟨by omega, by simp only [construct, hr]; rw [if_neg h]⟩

/-! ## The tables -/

theorem row_wf {cfg : Config} (h : cfg.wf = true) (c : Code) : (cfg.row c).wf = true := by
  simp only [Config.wf, Config.tablesWf, Bool.and_eq_true, List.all_eq_true] at h
  exact h.2.1.1 c (Code.mem_all c)

theorem CodeRow.apart_comm (r r' : CodeRow) : r.apart r' = r'.apart r := by
  cases r <;> cases r' <;> simp [CodeRow.apart, Bool.or_comm, bne_comm]

/-- The rows of two codes do not overlap. -/
theorem rows_apart {cfg : Config} (h : cfg.wf = true) {c c' : Code} (hn : c ≠ c') : (cfg.row c).apart (cfg.row c') = true := by
  simp only [Config.wf, Config.tablesWf, Bool.and_eq_true, decide_eq_true_eq, List.pairwise_map] at h
  have hs : Std.Symm fun a b : Code => (cfg.row a).apart (cfg.row b) = true := ⟨fun a b hab => by
    rw [CodeRow.apart_comm (cfg.row b)]; exact hab⟩
  exact h.2.1.2.forall (Code.mem_all c) (Code.mem_all c') hn

/-- A search that only one code meets finds it. -/
theorem find_only {p : Code → Bool} {c : Code} (hc : p c = true) (ho : ∀ c', p c' = true → c' = c) : Code.all.find? p = some c := by
  cases hf : Code.all.find? p with
  | none => exact absurd hc (by simpa using List.find?_eq_none.1 hf c (Code.mem_all c))
  | some c' => rw [ho c' (List.find?_some hf)]

/-- A single opcode is found (R134). -/
theorem singleOpcode_of {cfg : Config} (h : cfg.wf = true) {c : Code} {r : IndirectRow} (hr : cfg.row c = .indirect r)
    (hb : r.isBlock = false) : singleOpcode cfg r.opcode = some c := by
  refine find_only (by simp [hr, CodeRow.isSingle, hb]) fun c' hc' => ?_
  by_contra hne
  have ha := rows_apart h hne
  cases hr' : cfg.row c' with
  | indirect r' =>
    rw [hr'] at hc' ha
    simp only [CodeRow.isSingle, Bool.and_eq_true, Bool.not_eq_true', beq_iff_eq] at hc'
    simp [hr, CodeRow.apart, hb, hc'.1, hc'.2] at ha
  | level | special _ => simp [hr', CodeRow.isSingle] at hc'

/-- No single opcode lies inside a block (R134). -/
theorem singleOpcode_block {cfg : Config} (h : cfg.wf = true) {c : Code} {r : IndirectRow} (hr : cfg.row c = .indirect r)
    (hb : r.isBlock = true) {lo : Byte} (hlo : lo &&& 0xF0 = r.opcode &&& 0xF0) : singleOpcode cfg lo = none := by
  refine List.find?_eq_none.2 fun c' _ hc' => ?_
  have hne : c' ≠ c := by rintro rfl; simp [hr, CodeRow.isSingle, hb] at hc'
  have ha := rows_apart h hne
  cases hr' : cfg.row c' with
  | indirect r' =>
    rw [hr'] at hc' ha
    simp only [CodeRow.isSingle, Bool.and_eq_true, beq_iff_eq] at hc'
    rw [hr, CodeRow.apart, hb, Bool.or_true, if_pos rfl, hc'.2, hlo] at ha
    simp at ha
  | level | special _ => simp [hr', CodeRow.isSingle] at hc'

/-- The base of a block has a zero low nibble (R74). -/
theorem block_base {cfg : Config} (h : cfg.wf = true) {c : Code} {r : IndirectRow} (hr : cfg.row c = .indirect r)
    (hb : r.isBlock = true) : r.opcode &&& 0x0F = 0 := by
  have hw := row_wf h c
  rw [hr] at hw
  simp only [CodeRow.wf, hb, Bool.and_eq_true, Bool.or_eq_true, beq_iff_eq, Bool.true_and] at hw
  rcases hw.1 with h0 | h0
  · simp [IndirectRow.isBlock, h0] at hb
  · exact h0

/-- A block command is found by its base opcode (R134). -/
theorem blockOpcode_of {cfg : Config} (h : cfg.wf = true) {c : Code} {r : IndirectRow} (hr : cfg.row c = .indirect r)
    (hb : r.isBlock = true) : blockOpcode cfg r.opcode = some c := by
  refine find_only (by simp [hr, CodeRow.isBlockAt, hb]) fun c' hc' => ?_
  by_contra hne
  have ha := rows_apart h hne
  cases hr' : cfg.row c' with
  | indirect r' =>
    rw [hr'] at hc' ha
    simp only [CodeRow.isBlockAt, Bool.and_eq_true, beq_iff_eq] at hc'
    simp [hr, CodeRow.apart, hb, hc'.2] at ha
  | level | special _ => simp [hr', CodeRow.isBlockAt] at hc'

/-- A special code is in 256..287 (R123, R135). -/
theorem special_range {cfg : Config} (h : cfg.wf = true) {c : Code} {r : SpecialRow} (hr : cfg.row c = .special r) :
    256 ≤ r.code ∧ r.code ≤ 287 := by
  have hw := row_wf h c
  rw [hr] at hw
  simp only [CodeRow.wf, Bool.and_eq_true, decide_eq_true_eq] at hw
  exact hw.1.1

/-- Different special codes have different address bytes. -/
theorem specialByte_inj {m n : Nat} (hm : 256 ≤ m ∧ m ≤ 287) (hn : 256 ≤ n ∧ n ≤ 287) (h : specialByte m = specialByte n) :
    m = n := by
  have h := congrArg BitVec.toNat h
  simp only [specialByte, BitVec.toNat_ofNat] at h
  omega

/-- A special command is found by its address byte (R135). -/
theorem specialOf_of {cfg : Config} (h : cfg.wf = true) {c : Code} {r : SpecialRow} (hr : cfg.row c = .special r) :
    specialOf cfg (specialByte r.code) = some c := by
  refine find_only (by simp [hr, CodeRow.isSpecialAt]) fun c' hc' => ?_
  by_contra hne
  have ha := rows_apart h hne
  cases hr' : cfg.row c' with
  | special r' =>
    rw [hr'] at hc' ha
    simp only [CodeRow.isSpecialAt, beq_iff_eq] at hc'
    simp [hr, CodeRow.apart, specialByte_inj (special_range h hr') (special_range h hr) hc'] at ha
  | level | indirect _ => simp [hr', CodeRow.isSpecialAt] at hc'

/-- The numbers of a row stand on the 10-bit code port (R21). -/
theorem number_range {cfg : Config} (h : cfg.wf = true) (c : Code) : -1 ≤ cfg.number c ∧ cfg.number c ≤ 287 := by
  simp only [Config.number]
  cases hr : cfg.row c with
  | level => simp [CodeRow.number]
  | indirect r => have := r.opcode.isLt; simp only [CodeRow.number]; omega
  | special r => have := special_range h hr; simp only [CodeRow.number]; omega

/-- Different codes have different numbers (R21). -/
theorem number_inj {cfg : Config} (h : cfg.wf = true) {c c' : Code} (hn : cfg.number c = cfg.number c') : c = c' := by
  by_contra hne
  have ha := rows_apart h hne
  simp only [Config.number] at hn
  cases hr : cfg.row c with
  | level =>
    cases hr' : cfg.row c' with
    | level => exact hne ((row_level hr).trans (row_level hr').symm)
    | indirect r' => rw [hr, hr'] at hn; simp only [CodeRow.number] at hn; omega
    | special r' => rw [hr, hr'] at hn; simp only [CodeRow.number] at hn; omega
  | indirect r =>
    cases hr' : cfg.row c' with
    | level => rw [hr, hr'] at hn; simp only [CodeRow.number] at hn; omega
    | indirect r' =>
      rw [hr, hr'] at hn ha
      simp only [CodeRow.number] at hn
      have : r.opcode = r'.opcode := by apply BitVec.eq_of_toNat_eq; omega
      simp [CodeRow.apart, this] at ha
    | special r' =>
      have := special_range h hr'; have := r.opcode.isLt
      rw [hr, hr'] at hn; simp only [CodeRow.number] at hn; omega
  | special r =>
    have := special_range h hr
    cases hr' : cfg.row c' with
    | level => rw [hr, hr'] at hn; simp only [CodeRow.number] at hn; omega
    | indirect r' => have := r'.opcode.isLt; rw [hr, hr'] at hn; simp only [CodeRow.number] at hn; omega
    | special r' =>
      rw [hr, hr'] at hn ha
      simp only [CodeRow.number] at hn
      have : r.code = r'.code := by omega
      simp [CodeRow.apart, this] at ha

/-- The code port names the code (R21). -/
theorem codeOf_codePort {cfg : Config} (h : cfg.wf = true) (c : Code) : cfg.codeOf (cfg.codePort c) = some c := by
  refine find_only (by simp) fun c' hc' => number_inj h ?_
  simp only [Config.codePort, beq_iff_eq] at hc'
  have e := congrArg BitVec.toInt hc'
  have h1 := number_range h c
  have h2 := number_range h c'
  simp only [BitVec.toInt_ofInt] at e
  simp only [Int.bmod_def] at e
  omega

end Sys2Proof
end

