-- ==== Sys2Proof/Laws/State.lean ====
section
/-! SUPPORT. What each update of the state leaves in each field. -/

namespace Sys2Proof.Machine

@[simp] theorem State.emit_cfg (s : State) (o : Output) : (s.emit o).cfg = s.cfg := rfl
@[simp] theorem State.emit_eng (s : State) (o : Output) : (s.emit o).eng = s.eng := rfl
@[simp] theorem State.emit_nextCompletion (s : State) (o : Output) : (s.emit o).nextCompletion = s.nextCompletion := rfl
@[simp] theorem State.emit_inputs (s : State) (o : Output) : (s.emit o).inputs = s.inputs := rfl
@[simp] theorem State.emit_outputs (s : State) (o : Output) : (s.emit o).outputs = s.outputs ++ [o] := rfl
@[simp] theorem State.newCompletion_cfg (s : State) : s.newCompletion.cfg = s.cfg := rfl
@[simp] theorem State.newCompletion_eng (s : State) : s.newCompletion.eng = s.eng := rfl
@[simp] theorem State.newCompletion_inputs (s : State) : s.newCompletion.inputs = s.inputs := rfl
@[simp] theorem State.newCompletion_outputs (s : State) : s.newCompletion.outputs = s.outputs := rfl
@[simp] theorem State.newCompletion_nextCompletion (s : State) : s.newCompletion.nextCompletion = s.nextCompletion + 1 := rfl
@[simp] theorem State.setInputs_cfg (s : State) (xs : List Input) : (s.setInputs xs).cfg = s.cfg := rfl
@[simp] theorem State.setInputs_eng (s : State) (xs : List Input) : (s.setInputs xs).eng = s.eng := rfl
@[simp] theorem State.setInputs_nextCompletion (s : State) (xs : List Input) : (s.setInputs xs).nextCompletion = s.nextCompletion := rfl
@[simp] theorem State.setInputs_outputs (s : State) (xs : List Input) : (s.setInputs xs).outputs = s.outputs := rfl
@[simp] theorem State.setInputs_inputs (s : State) (xs : List Input) : (s.setInputs xs).inputs = xs := rfl

@[simp] theorem State.setInflight_cfg (s : State) (f : Option InFlight) : (s.setInflight f).cfg = s.cfg := rfl
@[simp] theorem State.setInflight_nextCompletion (s : State) (f : Option InFlight) : (s.setInflight f).nextCompletion = s.nextCompletion := rfl
@[simp] theorem State.setInflight_inputs (s : State) (f : Option InFlight) : (s.setInflight f).inputs = s.inputs := rfl
@[simp] theorem State.setInflight_outputs (s : State) (f : Option InFlight) : (s.setInflight f).outputs = s.outputs := rfl
@[simp] theorem State.setInflight_session (s : State) (f : Option InFlight) : (s.setInflight f).eng.session = s.eng.session := rfl
@[simp] theorem State.setInflight_transportOpen (s : State) (f : Option InFlight) : (s.setInflight f).eng.transportOpen = s.eng.transportOpen := rfl
@[simp] theorem State.setInflight_bootTimerArmed (s : State) (f : Option InFlight) : (s.setInflight f).eng.bootTimerArmed = s.eng.bootTimerArmed := rfl
@[simp] theorem State.setInflight_openEmitted (s : State) (f : Option InFlight) : (s.setInflight f).eng.openEmitted = s.eng.openEmitted := rfl
@[simp] theorem State.setInflight_dtrAsserted (s : State) (f : Option InFlight) : (s.setInflight f).eng.dtrAsserted = s.eng.dtrAsserted := rfl
@[simp] theorem State.setInflight_inflight (s : State) (f : Option InFlight) : (s.setInflight f).eng.inflight = f := rfl
@[simp] theorem State.setInflight_seq (s : State) (f : Option InFlight) : (s.setInflight f).eng.seq = s.eng.seq := rfl

@[simp] theorem State.setSeq_cfg (s : State) (q : Option Sequencer) : (s.setSeq q).cfg = s.cfg := rfl
@[simp] theorem State.setSeq_nextCompletion (s : State) (q : Option Sequencer) : (s.setSeq q).nextCompletion = s.nextCompletion := rfl
@[simp] theorem State.setSeq_inputs (s : State) (q : Option Sequencer) : (s.setSeq q).inputs = s.inputs := rfl
@[simp] theorem State.setSeq_outputs (s : State) (q : Option Sequencer) : (s.setSeq q).outputs = s.outputs := rfl
@[simp] theorem State.setSeq_session (s : State) (q : Option Sequencer) : (s.setSeq q).eng.session = s.eng.session := rfl
@[simp] theorem State.setSeq_transportOpen (s : State) (q : Option Sequencer) : (s.setSeq q).eng.transportOpen = s.eng.transportOpen := rfl
@[simp] theorem State.setSeq_bootTimerArmed (s : State) (q : Option Sequencer) : (s.setSeq q).eng.bootTimerArmed = s.eng.bootTimerArmed := rfl
@[simp] theorem State.setSeq_openEmitted (s : State) (q : Option Sequencer) : (s.setSeq q).eng.openEmitted = s.eng.openEmitted := rfl
@[simp] theorem State.setSeq_dtrAsserted (s : State) (q : Option Sequencer) : (s.setSeq q).eng.dtrAsserted = s.eng.dtrAsserted := rfl
@[simp] theorem State.setSeq_inflight (s : State) (q : Option Sequencer) : (s.setSeq q).eng.inflight = s.eng.inflight := rfl
@[simp] theorem State.setSeq_seq (s : State) (q : Option Sequencer) : (s.setSeq q).eng.seq = q := rfl

@[simp] theorem State.setSession_cfg (s : State) (x : Session) : (s.setSession x).cfg = s.cfg := rfl
@[simp] theorem State.setSession_nextCompletion (s : State) (x : Session) : (s.setSession x).nextCompletion = s.nextCompletion := rfl
@[simp] theorem State.setSession_inputs (s : State) (x : Session) : (s.setSession x).inputs = s.inputs := rfl
@[simp] theorem State.setSession_outputs (s : State) (x : Session) : (s.setSession x).outputs = s.outputs := rfl
@[simp] theorem State.setSession_session (s : State) (x : Session) : (s.setSession x).eng.session = x := rfl
@[simp] theorem State.setSession_transportOpen (s : State) (x : Session) : (s.setSession x).eng.transportOpen = s.eng.transportOpen := rfl
@[simp] theorem State.setSession_bootTimerArmed (s : State) (x : Session) : (s.setSession x).eng.bootTimerArmed = s.eng.bootTimerArmed := rfl
@[simp] theorem State.setSession_openEmitted (s : State) (x : Session) : (s.setSession x).eng.openEmitted = s.eng.openEmitted := rfl
@[simp] theorem State.setSession_dtrAsserted (s : State) (x : Session) : (s.setSession x).eng.dtrAsserted = s.eng.dtrAsserted := rfl
@[simp] theorem State.setSession_inflight (s : State) (x : Session) : (s.setSession x).eng.inflight = s.eng.inflight := rfl
@[simp] theorem State.setSession_seq (s : State) (x : Session) : (s.setSession x).eng.seq = s.eng.seq := rfl

@[simp] theorem State.setTransportOpen_cfg (s : State) (b : Bool) : (s.setTransportOpen b).cfg = s.cfg := rfl
@[simp] theorem State.setTransportOpen_nextCompletion (s : State) (b : Bool) : (s.setTransportOpen b).nextCompletion = s.nextCompletion := rfl
@[simp] theorem State.setTransportOpen_inputs (s : State) (b : Bool) : (s.setTransportOpen b).inputs = s.inputs := rfl
@[simp] theorem State.setTransportOpen_outputs (s : State) (b : Bool) : (s.setTransportOpen b).outputs = s.outputs := rfl
@[simp] theorem State.setTransportOpen_session (s : State) (b : Bool) : (s.setTransportOpen b).eng.session = s.eng.session := rfl
@[simp] theorem State.setTransportOpen_transportOpen (s : State) (b : Bool) : (s.setTransportOpen b).eng.transportOpen = b := rfl
@[simp] theorem State.setTransportOpen_bootTimerArmed (s : State) (b : Bool) : (s.setTransportOpen b).eng.bootTimerArmed = s.eng.bootTimerArmed := rfl
@[simp] theorem State.setTransportOpen_openEmitted (s : State) (b : Bool) : (s.setTransportOpen b).eng.openEmitted = s.eng.openEmitted := rfl
@[simp] theorem State.setTransportOpen_dtrAsserted (s : State) (b : Bool) : (s.setTransportOpen b).eng.dtrAsserted = s.eng.dtrAsserted := rfl
@[simp] theorem State.setTransportOpen_inflight (s : State) (b : Bool) : (s.setTransportOpen b).eng.inflight = s.eng.inflight := rfl
@[simp] theorem State.setTransportOpen_seq (s : State) (b : Bool) : (s.setTransportOpen b).eng.seq = s.eng.seq := rfl

@[simp] theorem State.setBootTimerArmed_cfg (s : State) (b : Bool) : (s.setBootTimerArmed b).cfg = s.cfg := rfl
@[simp] theorem State.setBootTimerArmed_nextCompletion (s : State) (b : Bool) : (s.setBootTimerArmed b).nextCompletion = s.nextCompletion := rfl
@[simp] theorem State.setBootTimerArmed_inputs (s : State) (b : Bool) : (s.setBootTimerArmed b).inputs = s.inputs := rfl
@[simp] theorem State.setBootTimerArmed_outputs (s : State) (b : Bool) : (s.setBootTimerArmed b).outputs = s.outputs := rfl
@[simp] theorem State.setBootTimerArmed_session (s : State) (b : Bool) : (s.setBootTimerArmed b).eng.session = s.eng.session := rfl
@[simp] theorem State.setBootTimerArmed_transportOpen (s : State) (b : Bool) : (s.setBootTimerArmed b).eng.transportOpen = s.eng.transportOpen := rfl
@[simp] theorem State.setBootTimerArmed_bootTimerArmed (s : State) (b : Bool) : (s.setBootTimerArmed b).eng.bootTimerArmed = b := rfl
@[simp] theorem State.setBootTimerArmed_openEmitted (s : State) (b : Bool) : (s.setBootTimerArmed b).eng.openEmitted = s.eng.openEmitted := rfl
@[simp] theorem State.setBootTimerArmed_dtrAsserted (s : State) (b : Bool) : (s.setBootTimerArmed b).eng.dtrAsserted = s.eng.dtrAsserted := rfl
@[simp] theorem State.setBootTimerArmed_inflight (s : State) (b : Bool) : (s.setBootTimerArmed b).eng.inflight = s.eng.inflight := rfl
@[simp] theorem State.setBootTimerArmed_seq (s : State) (b : Bool) : (s.setBootTimerArmed b).eng.seq = s.eng.seq := rfl

@[simp] theorem State.setOpenEmitted_cfg (s : State) (b : Bool) : (s.setOpenEmitted b).cfg = s.cfg := rfl
@[simp] theorem State.setOpenEmitted_nextCompletion (s : State) (b : Bool) : (s.setOpenEmitted b).nextCompletion = s.nextCompletion := rfl
@[simp] theorem State.setOpenEmitted_inputs (s : State) (b : Bool) : (s.setOpenEmitted b).inputs = s.inputs := rfl
@[simp] theorem State.setOpenEmitted_outputs (s : State) (b : Bool) : (s.setOpenEmitted b).outputs = s.outputs := rfl
@[simp] theorem State.setOpenEmitted_session (s : State) (b : Bool) : (s.setOpenEmitted b).eng.session = s.eng.session := rfl
@[simp] theorem State.setOpenEmitted_transportOpen (s : State) (b : Bool) : (s.setOpenEmitted b).eng.transportOpen = s.eng.transportOpen := rfl
@[simp] theorem State.setOpenEmitted_bootTimerArmed (s : State) (b : Bool) : (s.setOpenEmitted b).eng.bootTimerArmed = s.eng.bootTimerArmed := rfl
@[simp] theorem State.setOpenEmitted_openEmitted (s : State) (b : Bool) : (s.setOpenEmitted b).eng.openEmitted = b := rfl
@[simp] theorem State.setOpenEmitted_dtrAsserted (s : State) (b : Bool) : (s.setOpenEmitted b).eng.dtrAsserted = s.eng.dtrAsserted := rfl
@[simp] theorem State.setOpenEmitted_inflight (s : State) (b : Bool) : (s.setOpenEmitted b).eng.inflight = s.eng.inflight := rfl
@[simp] theorem State.setOpenEmitted_seq (s : State) (b : Bool) : (s.setOpenEmitted b).eng.seq = s.eng.seq := rfl

@[simp] theorem State.setDtrAsserted_cfg (s : State) (b : Bool) : (s.setDtrAsserted b).cfg = s.cfg := rfl
@[simp] theorem State.setDtrAsserted_nextCompletion (s : State) (b : Bool) : (s.setDtrAsserted b).nextCompletion = s.nextCompletion := rfl
@[simp] theorem State.setDtrAsserted_inputs (s : State) (b : Bool) : (s.setDtrAsserted b).inputs = s.inputs := rfl
@[simp] theorem State.setDtrAsserted_outputs (s : State) (b : Bool) : (s.setDtrAsserted b).outputs = s.outputs := rfl
@[simp] theorem State.setDtrAsserted_session (s : State) (b : Bool) : (s.setDtrAsserted b).eng.session = s.eng.session := rfl
@[simp] theorem State.setDtrAsserted_transportOpen (s : State) (b : Bool) : (s.setDtrAsserted b).eng.transportOpen = s.eng.transportOpen := rfl
@[simp] theorem State.setDtrAsserted_bootTimerArmed (s : State) (b : Bool) : (s.setDtrAsserted b).eng.bootTimerArmed = s.eng.bootTimerArmed := rfl
@[simp] theorem State.setDtrAsserted_openEmitted (s : State) (b : Bool) : (s.setDtrAsserted b).eng.openEmitted = s.eng.openEmitted := rfl
@[simp] theorem State.setDtrAsserted_dtrAsserted (s : State) (b : Bool) : (s.setDtrAsserted b).eng.dtrAsserted = b := rfl
@[simp] theorem State.setDtrAsserted_inflight (s : State) (b : Bool) : (s.setDtrAsserted b).eng.inflight = s.eng.inflight := rfl
@[simp] theorem State.setDtrAsserted_seq (s : State) (b : Bool) : (s.setDtrAsserted b).eng.seq = s.eng.seq := rfl

/-- `raiseError` strobes one port. -/
@[simp] theorem State.raiseError_eq (s : State) (e : Error) : s.raiseError e = s.emit (.raised e) := rfl
/-- `resolve` strobes one port. -/
@[simp] theorem State.resolve_eq (s : State) (c : Nat) (r : Resolution) : s.resolve c r = s.emit (.resolve c r) := rfl
/-- `reject` strobes one port. -/
@[simp] theorem State.reject_eq (s : State) (c : Nat) (e : Error) : s.reject c e = s.emit (.reject c e) := rfl
/-- `tx` strobes one port. -/
@[simp] theorem State.tx_eq (s : State) (f : List Byte) : s.tx f = s.emit (.tx f) := rfl
/-- `event` strobes one port. -/
@[simp] theorem State.event_eq (s : State) (e : Event) : s.event e = s.emit (.event e) := rfl
/-- `giveBack` strobes one port. -/
@[simp] theorem State.giveBack_eq (s : State) (c : Nat) : s.giveBack c = s.emit (.returned c) := rfl

end Sys2Proof.Machine
end

