-- ==== Sys2Proof/Laws/Ops.lean ====
section
/-! SUPPORT. What each shared operation can do, once: `sendCmd` by its five endings, the sequencer's continuation, routing,
cancellation, and the four shapes a meaning has. -/

namespace Sys2Proof.Machine

/-! ## The encoder -/

/-- Only `FirmwareReset` is refused by the encoder (46 R285, R292). -/
theorem frameEncode_cases (cfg : Config) (req : FoxtronRequest) :
    (∃ p, payload cfg req = .ok p ∧ frameEncode cfg req = .ok (frameOf p) ∧ req.type ≠ .firmwareReset) ∨
    (frameEncode cfg req = .error .forbiddenOperation ∧ req.type = .firmwareReset) := by
  cases req <;> simp [frameEncode, payload, FoxtronRequest.type]

/-- A bare command is always encoded. -/
theorem frameEncode_bare (cfg : Config) (c : DALICommand) :
    frameEncode cfg (bareRequest c) = .ok (frameOf (barePayload cfg (toBytecode cfg c))) := by
  simp [frameEncode, payload, bareRequest, wordFields, barePayload, priorityByte, distinctParameter]

/-! ## `sendCmd` -/

theorem sendCmd_unusable {s : State} (h : s.eng.usable = false) (req : FoxtronRequest) :
    sendCmd req s = (.fired s.nextCompletion (some channelNotOpenResponse),
      s.newCompletion.resolve s.nextCompletion (.response channelNotOpenResponse)) := by
  simp [sendCmd, h, sendUnusable]

theorem sendCmd_busy {s : State} {req : FoxtronRequest} {f : InFlight} (h : s.eng.usable = true)
    (hc : req.type.correlated = true) (hf : s.eng.inflight = some f) :
    sendCmd req s = (.raised .requestAlreadyInFlight, s) := by
  simp [sendCmd, h, hc, sendCorrelated, Engine.inflightValid, hf]

theorem sendCmd_taken {s : State} {req : FoxtronRequest} {fr : List Byte} (h : s.eng.usable = true)
    (hc : req.type.correlated = true) (hf : s.eng.inflight = none) (he : frameEncode s.cfg req = .ok fr) :
    sendCmd req s = (.pending s.nextCompletion, (register req s).tx fr) := by
  simp [sendCmd, h, hc, sendCorrelated, Engine.inflightValid, hf, he]

theorem sendCmd_forbidden {s : State} {req : FoxtronRequest} {e : Error} (h : s.eng.usable = true)
    (hc : req.type.correlated = true) (hf : s.eng.inflight = none) (he : frameEncode s.cfg req = .error e) :
    sendCmd req s = (.raised e, register req s) := by
  simp [sendCmd, h, hc, sendCorrelated, Engine.inflightValid, hf, he]

theorem sendCmd_plain {s : State} {req : FoxtronRequest} {fr : List Byte} (h : s.eng.usable = true)
    (hc : req.type.correlated = false) (he : frameEncode s.cfg req = .ok fr) :
    sendCmd req s = (.fired s.nextCompletion none, (s.tx fr).newCompletion.resolve s.nextCompletion .nothing) := by
  simp [sendCmd, h, hc, sendUncorrelated, he]

/-- Everything a caller's `sendCmd` can do (48 R334). -/
theorem callSendCmd_cases (req : FoxtronRequest) (s : State) :
    (s.eng.usable = false ∧ callSendCmd req s =
      (s.newCompletion.resolve s.nextCompletion (.response channelNotOpenResponse)).giveBack s.nextCompletion) ∨
    (s.eng.usable = true ∧ req.type.correlated = true ∧ (∃ f, s.eng.inflight = some f) ∧
      callSendCmd req s = s.raiseError .requestAlreadyInFlight) ∨
    (s.eng.usable = true ∧ req.type.correlated = true ∧ s.eng.inflight = none ∧
      ∃ p, payload s.cfg req = .ok p ∧ callSendCmd req s = ((register req s).tx (frameOf p)).giveBack s.nextCompletion) ∨
    (s.eng.usable = true ∧ s.eng.inflight = none ∧ req.type = .firmwareReset ∧
      callSendCmd req s = (register req s).raiseError .forbiddenOperation) ∨
    (s.eng.usable = true ∧ req.type.correlated = false ∧
      ∃ p, payload s.cfg req = .ok p ∧ callSendCmd req s =
        ((((s.tx (frameOf p)).newCompletion).resolve s.nextCompletion .nothing).giveBack s.nextCompletion)) := by
  cases hu : s.eng.usable with
  | false => exact .inl ⟨rfl, by simp [callSendCmd, sendCmd_unusable hu]⟩
  | true =>
    refine .inr ?_
    cases hc : req.type.correlated with
    | false =>
      refine .inr (.inr (.inr ?_))
      rcases frameEncode_cases s.cfg req with ⟨p, hp, he, -⟩ | ⟨-, ht⟩
      · exact ⟨rfl, rfl, p, hp, by simp [callSendCmd, sendCmd_plain hu hc he]⟩
      · simp [ht, RequestType.correlated] at hc
    | true =>
      cases hf : s.eng.inflight with
      | some f => exact .inl ⟨rfl, rfl, ⟨f, rfl⟩, by simp [callSendCmd, sendCmd_busy hu hc hf]⟩
      | none =>
        rcases frameEncode_cases s.cfg req with ⟨p, hp, he, -⟩ | ⟨he, ht⟩
        · exact .inr (.inl ⟨rfl, rfl, rfl, p, hp, by simp [callSendCmd, sendCmd_taken hu hc hf he]⟩)
        · exact .inr (.inr (.inl ⟨rfl, rfl, ht, by simp [callSendCmd, sendCmd_forbidden hu hc hf he]⟩))

/-! ## The sequencer -/

/-- A bare command is a correlated request. -/
@[simp] theorem bareRequest_correlated (c : DALICommand) : (bareRequest c).type.correlated = true := rfl

theorem seqIssue_taken {s : State} {q : Sequencer} (next : FoxtronResponse → State → State) (h : s.eng.usable = true)
    (hf : s.eng.inflight = none) (hq : s.eng.seq = some q) :
    seqIssue next s = (register (bareRequest (searchCommand q.phase q.value)) s).tx
      (frameOf (barePayload s.cfg (toBytecode s.cfg (searchCommand q.phase q.value)))) := by
  simp [seqIssue, hq, sendCmd_taken h (bareRequest_correlated _) hf (frameEncode_bare _ _)]

theorem seqIssue_busy {s : State} {q : Sequencer} {f : InFlight} (next : FoxtronResponse → State → State)
    (h : s.eng.usable = true) (hf : s.eng.inflight = some f) (hq : s.eng.seq = some q) :
    seqIssue next s = (s.setSeq none).reject q.completion .requestAlreadyInFlight := by
  simp [seqIssue, hq, sendCmd_busy h (bareRequest_correlated _) hf, seqAbort]

theorem seqIssue_unusable {s : State} {q : Sequencer} (next : FoxtronResponse → State → State) (h : s.eng.usable = false)
    (hq : s.eng.seq = some q) :
    seqIssue next s = next channelNotOpenResponse
      (s.newCompletion.resolve s.nextCompletion (.response channelNotOpenResponse)) := by
  simp [seqIssue, hq, sendCmd_unusable h]

/-! ## Cancellation and routing -/

/-- Everything `cancelInflight` can do (48 R342, R343, R347). -/
theorem cancelInflight_cases (s : State) :
    (s.eng.inflight = none ∧ cancelInflight s = s) ∨
    (∃ f, s.eng.inflight = some f ∧ s.eng.seq = none ∧
      cancelInflight s = (s.setInflight none).reject f.completion .cancelled) ∨
    (∃ f q, s.eng.inflight = some f ∧ s.eng.seq = some q ∧
      cancelInflight s = ((((s.setInflight none).reject f.completion .cancelled).setSeq none).reject q.completion .cancelled)) := by
  cases hf : s.eng.inflight with
  | none => exact .inl ⟨rfl, by simp [cancelInflight, hf]⟩
  | some f =>
    cases hq : s.eng.seq with
    | none => exact .inr (.inl ⟨f, rfl, rfl, by simp [cancelInflight, hf, seqAbort, hq]⟩)
    | some q => exact .inr (.inr ⟨f, q, rfl, rfl, by simp [cancelInflight, hf, seqAbort, hq]⟩)

/-- The state in which the last echo has completed the request (48 R336 (d)). -/
def completed (r : FoxtronResponse) (f : InFlight) (s : State) : State :=
  (s.setInflight none).resolve f.completion (.response r)

/-- Everything a distinct frame can do (48 R336). -/
theorem distinctRoute_cases (r : FoxtronResponse) (s : State) :
    (s.eng.inflight = none ∧ distinctRoute r s = s) ∨
    (∃ f, s.eng.inflight = some f ∧ 0 < f.remainingEchoes - 1 ∧
      distinctRoute r s = s.setInflight (some { f with remainingEchoes := f.remainingEchoes - 1 })) ∨
    (∃ f, s.eng.inflight = some f ∧ f.remainingEchoes - 1 = 0 ∧ s.eng.seq = none ∧
      distinctRoute r s = completed r f s) ∨
    (∃ f q, s.eng.inflight = some f ∧ f.remainingEchoes - 1 = 0 ∧ s.eng.seq = some q ∧
      distinctRoute r s = seqContinue r (completed r f s)) := by
  cases hf : s.eng.inflight with
  | none => exact .inl ⟨rfl, by simp [distinctRoute, hf]⟩
  | some f =>
    by_cases hr : 0 < f.remainingEchoes - 1
    · exact .inr (.inl ⟨f, rfl, hr, by simp [distinctRoute, hf, hr]⟩)
    · refine .inr (.inr ?_)
      have h0 : f.remainingEchoes - 1 = 0 := by omega
      cases hq : s.eng.seq with
      | none => exact .inl ⟨f, rfl, h0, rfl, by simp [distinctRoute, hf, hr, completed, seqContinue, hq]⟩
      | some q => exact .inr ⟨f, q, rfl, h0, rfl, by simp [distinctRoute, hf, hr, completed]⟩

/-! ## The meanings -/

/-- The four shapes of a meaning: an error of `construct`, a `sendCmd`, the routing of an unsolicited frame, the routing of a
distinct frame. -/
theorem exec_cases (i : Instr) (s : State) :
    (∃ d e, i.operands = some d ∧ d.construct s.cfg = .error e ∧ exec i s = .next (s.raiseError e)) ∨
    (∃ req, i.sends = true ∧ req.type.correlated = i.correlated ∧ exec i s = .next (callSendCmd req s)) ∨
    (∃ ev r, i.sends = false ∧ ev r ≠ .sessionOpen ∧ (∀ x, ev r ≠ .sessionClosed x) ∧
      exec i s = .next (unsolicitedRoute ev r s)) ∨
    (∃ r, i.distinctFrame r ∧ exec i s = .next (distinctRoute r s)) := by
  have key : ∀ (c : Code) (a : Option DALIAddress) (v : Option Value),
      (∃ d e, some (CommandDesc.mk c a v) = some d ∧ d.construct s.cfg = .error e ∧ runCommand c a v s = s.raiseError e) ∨
      (∃ req : FoxtronRequest, req.type.correlated = true ∧ runCommand c a v s = callSendCmd req s) := by
    intro c a v
    cases h : construct s.cfg c a v with
    | error e => exact .inl ⟨_, e, rfl, by simpa [CommandDesc.construct] using h, by simp [runCommand, h]⟩
    | ok cmd => exact .inr ⟨bareRequest cmd, rfl, by simp [runCommand, h]⟩
  have key2 : ∀ (d : CommandDesc) (k : DALICommand → FoxtronRequest) (b : Bool), (∀ c, (k c).type.correlated = b) →
      (∃ d' e, some d = some d' ∧ d'.construct s.cfg = .error e ∧ runCommandRequest d k s = s.raiseError e) ∨
      (∃ req : FoxtronRequest, req.type.correlated = b ∧ runCommandRequest d k s = callSendCmd req s) := by
    intro d k b hk
    cases h : d.construct s.cfg with
    | error e => exact .inl ⟨d, e, rfl, h, by simp [runCommandRequest, h]⟩
    | ok cmd => exact .inr ⟨k cmd, hk cmd, by simp [runCommandRequest, h]⟩
  cases i with
  | send d p =>
    rcases key2 d (fun c => .send c p) false (fun _ => rfl) with ⟨d', e, h1, h2, h3⟩ | ⟨req, h1, h2⟩
    · exact .inl ⟨d', e, h1, h2, congrArg Host.Outcome.next h3⟩
    · exact .inr (.inl ⟨req, rfl, h1, congrArg Host.Outcome.next h2⟩)
  | distinctSend d p ds q =>
    rcases key2 d (fun c => .distinctSend c p ds q) true (fun _ => rfl) with ⟨d', e, h1, h2, h3⟩ | ⟨req, h1, h2⟩
    · exact .inl ⟨d', e, h1, h2, congrArg Host.Outcome.next h3⟩
    · exact .inr (.inl ⟨req, rfl, h1, congrArg Host.Outcome.next h2⟩)
  | continuousSend d p ds =>
    rcases key2 d (fun c => .continuousSend c p ds) true (fun _ => rfl) with ⟨d', e, h1, h2, h3⟩ | ⟨req, h1, h2⟩
    · exact .inl ⟨d', e, h1, h2, congrArg Host.Outcome.next h3⟩
    · exact .inr (.inl ⟨req, rfl, h1, congrArg Host.Outcome.next h2⟩)
  | confQuery i ds => exact .inr (.inl ⟨_, rfl, rfl, rfl⟩)
  | confChange i x ds => exact .inr (.inl ⟨_, rfl, rfl, rfl⟩)
  | sequenceEnd ds => exact .inr (.inl ⟨_, rfl, rfl, rfl⟩)
  | firmwareReset ds => exact .inr (.inl ⟨_, rfl, rfl, rfl⟩)
  | distinctResponse r => exact .inr (.inr (.inr ⟨_, .inl ⟨r, rfl, rfl⟩, rfl⟩))
  | distinctNoResponse r => exact .inr (.inr (.inr ⟨_, .inr ⟨r, rfl, rfl⟩, rfl⟩))
  | response r => exact .inr (.inr (.inl ⟨_, _, rfl, Event.noConfusion, fun _ => Event.noConfusion, rfl⟩))
  | noResponse r => exact .inr (.inr (.inl ⟨_, _, rfl, Event.noConfusion, fun _ => Event.noConfusion, rfl⟩))
  | confResponse a b => exact .inr (.inr (.inl ⟨_, _, rfl, Event.noConfusion, fun _ => Event.noConfusion, rfl⟩))
  | confChangeAck a b c => exact .inr (.inr (.inl ⟨_, _, rfl, Event.noConfusion, fun _ => Event.noConfusion, rfl⟩))
  | specReceived m => exact .inr (.inr (.inl ⟨_, _, rfl, Event.noConfusion, fun _ => Event.noConfusion, rfl⟩))
  | firmwareResetAck => exact .inr (.inr (.inl ⟨_, _, rfl, Event.noConfusion, fun _ => Event.noConfusion, rfl⟩))
  | _ a v =>
    rcases key _ a v with ⟨d', e, h1, h2, h3⟩ | ⟨req, h1, h2⟩
    · exact .inl ⟨d', e, h1, h2, congrArg Host.Outcome.next h3⟩
    · exact .inr (.inl ⟨req, rfl, h1, congrArg Host.Outcome.next h2⟩)

end Sys2Proof.Machine
end

