-- ==== Sys2Proof/Laws/PerInstr.lean ====
section
/-! SUPPORT. Statements about every instruction as syntax, one lemma for each constructor. -/

namespace Sys2Proof.Laws

/-- A well-formed instruction has an encoding under every configuration. -/
def EncodingExists.Statement (i : Instr) : Prop := ∀ cfg : Config, i.wf cfg = true → (encode cfg i).isSome = true

/-- A command `construct` accepts has a forward word. -/
theorem encodeCommand_isSome {cfg : Config} {c : Code} {a : Option DALIAddress} {v : Option Value} (h : commandWf cfg c a v = true) :
    (encodeCommand cfg c a v).isSome = true := by
  simp only [commandWf, decide_eq_true_eq] at h
  simp [encodeCommand, h]

theorem EncodingExists.directArcPower (a : Option DALIAddress) (v : Option Value) : EncodingExists.Statement (.directArcPower a v) :=
  fun _ h => encodeCommand_isSome h

theorem EncodingExists.off (a : Option DALIAddress) (v : Option Value) : EncodingExists.Statement (.off a v) :=
  fun _ h => encodeCommand_isSome h

theorem EncodingExists.up (a : Option DALIAddress) (v : Option Value) : EncodingExists.Statement (.up a v) :=
  fun _ h => encodeCommand_isSome h

theorem EncodingExists.down (a : Option DALIAddress) (v : Option Value) : EncodingExists.Statement (.down a v) :=
  fun _ h => encodeCommand_isSome h

theorem EncodingExists.stepUp (a : Option DALIAddress) (v : Option Value) : EncodingExists.Statement (.stepUp a v) :=
  fun _ h => encodeCommand_isSome h

theorem EncodingExists.stepDown (a : Option DALIAddress) (v : Option Value) : EncodingExists.Statement (.stepDown a v) :=
  fun _ h => encodeCommand_isSome h

theorem EncodingExists.recallMaxLevel (a : Option DALIAddress) (v : Option Value) : EncodingExists.Statement (.recallMaxLevel a v) :=
  fun _ h => encodeCommand_isSome h

theorem EncodingExists.recallMinLevel (a : Option DALIAddress) (v : Option Value) : EncodingExists.Statement (.recallMinLevel a v) :=
  fun _ h => encodeCommand_isSome h

theorem EncodingExists.stepDownAndOff (a : Option DALIAddress) (v : Option Value) : EncodingExists.Statement (.stepDownAndOff a v) :=
  fun _ h => encodeCommand_isSome h

theorem EncodingExists.onAndStepUp (a : Option DALIAddress) (v : Option Value) : EncodingExists.Statement (.onAndStepUp a v) :=
  fun _ h => encodeCommand_isSome h

theorem EncodingExists.enableDAPCSequence (a : Option DALIAddress) (v : Option Value) : EncodingExists.Statement (.enableDAPCSequence a v) :=
  fun _ h => encodeCommand_isSome h

theorem EncodingExists.goToScene (a : Option DALIAddress) (v : Option Value) : EncodingExists.Statement (.goToScene a v) :=
  fun _ h => encodeCommand_isSome h

theorem EncodingExists.reset (a : Option DALIAddress) (v : Option Value) : EncodingExists.Statement (.reset a v) :=
  fun _ h => encodeCommand_isSome h

theorem EncodingExists.storeActualLevelInDTR (a : Option DALIAddress) (v : Option Value) : EncodingExists.Statement (.storeActualLevelInDTR a v) :=
  fun _ h => encodeCommand_isSome h

theorem EncodingExists.storeDTRAsMaxLevel (a : Option DALIAddress) (v : Option Value) : EncodingExists.Statement (.storeDTRAsMaxLevel a v) :=
  fun _ h => encodeCommand_isSome h

theorem EncodingExists.storeDTRAsMinLevel (a : Option DALIAddress) (v : Option Value) : EncodingExists.Statement (.storeDTRAsMinLevel a v) :=
  fun _ h => encodeCommand_isSome h

theorem EncodingExists.storeDTRAsSystemFailureLevel (a : Option DALIAddress) (v : Option Value) : EncodingExists.Statement (.storeDTRAsSystemFailureLevel a v) :=
  fun _ h => encodeCommand_isSome h

theorem EncodingExists.storeDTRAsPowerOnLevel (a : Option DALIAddress) (v : Option Value) : EncodingExists.Statement (.storeDTRAsPowerOnLevel a v) :=
  fun _ h => encodeCommand_isSome h

theorem EncodingExists.storeDTRAsFadeTime (a : Option DALIAddress) (v : Option Value) : EncodingExists.Statement (.storeDTRAsFadeTime a v) :=
  fun _ h => encodeCommand_isSome h

theorem EncodingExists.storeDTRAsFadeRate (a : Option DALIAddress) (v : Option Value) : EncodingExists.Statement (.storeDTRAsFadeRate a v) :=
  fun _ h => encodeCommand_isSome h

theorem EncodingExists.storeDTRasScene (a : Option DALIAddress) (v : Option Value) : EncodingExists.Statement (.storeDTRasScene a v) :=
  fun _ h => encodeCommand_isSome h

theorem EncodingExists.removeScene (a : Option DALIAddress) (v : Option Value) : EncodingExists.Statement (.removeScene a v) :=
  fun _ h => encodeCommand_isSome h

theorem EncodingExists.addToGroup (a : Option DALIAddress) (v : Option Value) : EncodingExists.Statement (.addToGroup a v) :=
  fun _ h => encodeCommand_isSome h

theorem EncodingExists.removeFromGroup (a : Option DALIAddress) (v : Option Value) : EncodingExists.Statement (.removeFromGroup a v) :=
  fun _ h => encodeCommand_isSome h

theorem EncodingExists.storeDTRAsShortAddress (a : Option DALIAddress) (v : Option Value) : EncodingExists.Statement (.storeDTRAsShortAddress a v) :=
  fun _ h => encodeCommand_isSome h

theorem EncodingExists.enableWriteMemory (a : Option DALIAddress) (v : Option Value) : EncodingExists.Statement (.enableWriteMemory a v) :=
  fun _ h => encodeCommand_isSome h

theorem EncodingExists.queryStatus (a : Option DALIAddress) (v : Option Value) : EncodingExists.Statement (.queryStatus a v) :=
  fun _ h => encodeCommand_isSome h

theorem EncodingExists.queryControlGear (a : Option DALIAddress) (v : Option Value) : EncodingExists.Statement (.queryControlGear a v) :=
  fun _ h => encodeCommand_isSome h

theorem EncodingExists.queryLampFailure (a : Option DALIAddress) (v : Option Value) : EncodingExists.Statement (.queryLampFailure a v) :=
  fun _ h => encodeCommand_isSome h

theorem EncodingExists.queryLampPowerOn (a : Option DALIAddress) (v : Option Value) : EncodingExists.Statement (.queryLampPowerOn a v) :=
  fun _ h => encodeCommand_isSome h

theorem EncodingExists.queryLimitError (a : Option DALIAddress) (v : Option Value) : EncodingExists.Statement (.queryLimitError a v) :=
  fun _ h => encodeCommand_isSome h

theorem EncodingExists.queryResetState (a : Option DALIAddress) (v : Option Value) : EncodingExists.Statement (.queryResetState a v) :=
  fun _ h => encodeCommand_isSome h

theorem EncodingExists.queryMissingShortAddress (a : Option DALIAddress) (v : Option Value) : EncodingExists.Statement (.queryMissingShortAddress a v) :=
  fun _ h => encodeCommand_isSome h

theorem EncodingExists.queryVersionNumber (a : Option DALIAddress) (v : Option Value) : EncodingExists.Statement (.queryVersionNumber a v) :=
  fun _ h => encodeCommand_isSome h

theorem EncodingExists.queryContentDTR (a : Option DALIAddress) (v : Option Value) : EncodingExists.Statement (.queryContentDTR a v) :=
  fun _ h => encodeCommand_isSome h

theorem EncodingExists.queryDeviceType (a : Option DALIAddress) (v : Option Value) : EncodingExists.Statement (.queryDeviceType a v) :=
  fun _ h => encodeCommand_isSome h

theorem EncodingExists.queryPhysicalMinimum (a : Option DALIAddress) (v : Option Value) : EncodingExists.Statement (.queryPhysicalMinimum a v) :=
  fun _ h => encodeCommand_isSome h

theorem EncodingExists.queryPowerFailure (a : Option DALIAddress) (v : Option Value) : EncodingExists.Statement (.queryPowerFailure a v) :=
  fun _ h => encodeCommand_isSome h

theorem EncodingExists.queryContentDTR1 (a : Option DALIAddress) (v : Option Value) : EncodingExists.Statement (.queryContentDTR1 a v) :=
  fun _ h => encodeCommand_isSome h

theorem EncodingExists.queryContentDTR2 (a : Option DALIAddress) (v : Option Value) : EncodingExists.Statement (.queryContentDTR2 a v) :=
  fun _ h => encodeCommand_isSome h

theorem EncodingExists.queryActualLevel (a : Option DALIAddress) (v : Option Value) : EncodingExists.Statement (.queryActualLevel a v) :=
  fun _ h => encodeCommand_isSome h

theorem EncodingExists.queryMaxLevel (a : Option DALIAddress) (v : Option Value) : EncodingExists.Statement (.queryMaxLevel a v) :=
  fun _ h => encodeCommand_isSome h

theorem EncodingExists.queryMinLevel (a : Option DALIAddress) (v : Option Value) : EncodingExists.Statement (.queryMinLevel a v) :=
  fun _ h => encodeCommand_isSome h

theorem EncodingExists.queryPowerOnLevel (a : Option DALIAddress) (v : Option Value) : EncodingExists.Statement (.queryPowerOnLevel a v) :=
  fun _ h => encodeCommand_isSome h

theorem EncodingExists.querySystemFailureLevel (a : Option DALIAddress) (v : Option Value) : EncodingExists.Statement (.querySystemFailureLevel a v) :=
  fun _ h => encodeCommand_isSome h

theorem EncodingExists.queryFadeTimeRate (a : Option DALIAddress) (v : Option Value) : EncodingExists.Statement (.queryFadeTimeRate a v) :=
  fun _ h => encodeCommand_isSome h

theorem EncodingExists.querySceneLevel (a : Option DALIAddress) (v : Option Value) : EncodingExists.Statement (.querySceneLevel a v) :=
  fun _ h => encodeCommand_isSome h

theorem EncodingExists.queryGroups0to7 (a : Option DALIAddress) (v : Option Value) : EncodingExists.Statement (.queryGroups0to7 a v) :=
  fun _ h => encodeCommand_isSome h

theorem EncodingExists.queryGroups8to15 (a : Option DALIAddress) (v : Option Value) : EncodingExists.Statement (.queryGroups8to15 a v) :=
  fun _ h => encodeCommand_isSome h

theorem EncodingExists.queryRandomAddressH (a : Option DALIAddress) (v : Option Value) : EncodingExists.Statement (.queryRandomAddressH a v) :=
  fun _ h => encodeCommand_isSome h

theorem EncodingExists.queryRandomAddressM (a : Option DALIAddress) (v : Option Value) : EncodingExists.Statement (.queryRandomAddressM a v) :=
  fun _ h => encodeCommand_isSome h

theorem EncodingExists.queryRandomAddressL (a : Option DALIAddress) (v : Option Value) : EncodingExists.Statement (.queryRandomAddressL a v) :=
  fun _ h => encodeCommand_isSome h

theorem EncodingExists.readMemoryLocation (a : Option DALIAddress) (v : Option Value) : EncodingExists.Statement (.readMemoryLocation a v) :=
  fun _ h => encodeCommand_isSome h

theorem EncodingExists.extendedVersionNumber (a : Option DALIAddress) (v : Option Value) : EncodingExists.Statement (.extendedVersionNumber a v) :=
  fun _ h => encodeCommand_isSome h

theorem EncodingExists.terminate (a : Option DALIAddress) (v : Option Value) : EncodingExists.Statement (.terminate a v) :=
  fun _ h => encodeCommand_isSome h

theorem EncodingExists.dataTransferRegister (a : Option DALIAddress) (v : Option Value) : EncodingExists.Statement (.dataTransferRegister a v) :=
  fun _ h => encodeCommand_isSome h

theorem EncodingExists.initialise (a : Option DALIAddress) (v : Option Value) : EncodingExists.Statement (.initialise a v) :=
  fun _ h => encodeCommand_isSome h

theorem EncodingExists.randomize (a : Option DALIAddress) (v : Option Value) : EncodingExists.Statement (.randomize a v) :=
  fun _ h => encodeCommand_isSome h

theorem EncodingExists.compare (a : Option DALIAddress) (v : Option Value) : EncodingExists.Statement (.compare a v) :=
  fun _ h => encodeCommand_isSome h

theorem EncodingExists.withdraw (a : Option DALIAddress) (v : Option Value) : EncodingExists.Statement (.withdraw a v) :=
  fun _ h => encodeCommand_isSome h

theorem EncodingExists.ping (a : Option DALIAddress) (v : Option Value) : EncodingExists.Statement (.ping a v) :=
  fun _ h => encodeCommand_isSome h

theorem EncodingExists.searchAddressH (a : Option DALIAddress) (v : Option Value) : EncodingExists.Statement (.searchAddressH a v) :=
  fun _ h => encodeCommand_isSome h

theorem EncodingExists.searchAddressM (a : Option DALIAddress) (v : Option Value) : EncodingExists.Statement (.searchAddressM a v) :=
  fun _ h => encodeCommand_isSome h

theorem EncodingExists.searchAddressL (a : Option DALIAddress) (v : Option Value) : EncodingExists.Statement (.searchAddressL a v) :=
  fun _ h => encodeCommand_isSome h

theorem EncodingExists.programShortAddress (a : Option DALIAddress) (v : Option Value) : EncodingExists.Statement (.programShortAddress a v) :=
  fun _ h => encodeCommand_isSome h

theorem EncodingExists.verifyShortAddress (a : Option DALIAddress) (v : Option Value) : EncodingExists.Statement (.verifyShortAddress a v) :=
  fun _ h => encodeCommand_isSome h

theorem EncodingExists.queryShortAddress (a : Option DALIAddress) (v : Option Value) : EncodingExists.Statement (.queryShortAddress a v) :=
  fun _ h => encodeCommand_isSome h

theorem EncodingExists.physicalSelection (a : Option DALIAddress) (v : Option Value) : EncodingExists.Statement (.physicalSelection a v) :=
  fun _ h => encodeCommand_isSome h

theorem EncodingExists.enableDeviceOfType (a : Option DALIAddress) (v : Option Value) : EncodingExists.Statement (.enableDeviceOfType a v) :=
  fun _ h => encodeCommand_isSome h

theorem EncodingExists.setDTR1 (a : Option DALIAddress) (v : Option Value) : EncodingExists.Statement (.setDTR1 a v) :=
  fun _ h => encodeCommand_isSome h

theorem EncodingExists.setDTR2 (a : Option DALIAddress) (v : Option Value) : EncodingExists.Statement (.setDTR2 a v) :=
  fun _ h => encodeCommand_isSome h

theorem EncodingExists.writeMemoryLocation (a : Option DALIAddress) (v : Option Value) : EncodingExists.Statement (.writeMemoryLocation a v) :=
  fun _ h => encodeCommand_isSome h

theorem EncodingExists.send (d : CommandDesc) (p : Option Value) : EncodingExists.Statement (.send d p) :=
  fun _ _ => rfl

theorem EncodingExists.distinctSend (d : CommandDesc) (p : Option Value) (ds q : Option Bool) : EncodingExists.Statement (.distinctSend d p ds q) :=
  fun _ _ => rfl

theorem EncodingExists.continuousSend (d : CommandDesc) (p : Option Value) (ds : Option Bool) : EncodingExists.Statement (.continuousSend d p ds) :=
  fun _ _ => rfl

theorem EncodingExists.confQuery (i : Byte) (ds : Option Bool) : EncodingExists.Statement (.confQuery i ds) :=
  fun _ _ => rfl

theorem EncodingExists.confChange (i : Byte) (x : Word) (ds : Option Bool) : EncodingExists.Statement (.confChange i x ds) :=
  fun _ _ => rfl

theorem EncodingExists.sequenceEnd (ds : Option Bool) : EncodingExists.Statement (.sequenceEnd ds) :=
  fun _ _ => rfl

theorem EncodingExists.firmwareReset (ds : Option Bool) : EncodingExists.Statement (.firmwareReset ds) :=
  fun _ _ => rfl

theorem EncodingExists.response (r : AnswerReport) : EncodingExists.Statement (.response r) :=
  fun _ _ => rfl

theorem EncodingExists.distinctResponse (r : AnswerReport) : EncodingExists.Statement (.distinctResponse r) :=
  fun _ _ => rfl

theorem EncodingExists.noResponse (r : ForwardReport) : EncodingExists.Statement (.noResponse r) :=
  fun _ _ => rfl

theorem EncodingExists.distinctNoResponse (r : ForwardReport) : EncodingExists.Statement (.distinctNoResponse r) :=
  fun _ _ => rfl

theorem EncodingExists.confResponse (i : Byte) (d : Word) : EncodingExists.Statement (.confResponse i d) :=
  fun _ _ => rfl

theorem EncodingExists.confChangeAck (i : Byte) (d : Word) (k : AckFlag) : EncodingExists.Statement (.confChangeAck i d k) :=
  fun _ _ => rfl

theorem EncodingExists.specReceived (m : SpecialMessage) : EncodingExists.Statement (.specReceived m) :=
  fun _ _ => rfl

theorem EncodingExists.firmwareResetAck : EncodingExists.Statement .firmwareResetAck :=
  fun _ _ => rfl

end Sys2Proof.Laws
end

