-- ==== Sys2Proof/Laws/Step.lean ====
section
/-! SUPPORT. What one step can do, once: it stays, it strobes ports, or it is one of the engine's operations on the state with the
first input taken. -/

namespace Sys2Proof.Machine

/-- An output that fires no completion, transmits nothing and is no session event. -/
def Output.quiet : Output → Prop
  | .raised _ | .isOpen _ | .result _ | .closeTransport => True
  | .event e => e ≠ .sessionOpen ∧ ∀ x, e ≠ .sessionClosed x
  | .tx _ | .setLine _ | .startTimer _ | .returned _ | .resolve _ _ | .reject _ _ => False

/-- What an instruction does to the state, by the shape of its meaning. -/
inductive ExecShape (i : Instr) (s t : State) : Prop where
  | one (o : Output) (h : o.quiet) (ht : t = s.emit o)
  | two (o o' : Output) (h : o.quiet) (h' : o'.quiet) (ht : t = (s.emit o).emit o')
  | sent (req : FoxtronRequest) (hi : i.sends = true) (ht : t = callSendCmd req s)
  | routed (r : FoxtronResponse) (hi : i.distinctFrame r) (ht : t = distinctRoute r s)

/-- Every meaning has one of the four shapes. -/
theorem exec_shape {i : Instr} {s t : State} (h : exec i s = .next t) : ExecShape i s t := by
  rcases exec_cases i s with ⟨d, e, -, -, h3⟩ | ⟨req, hi, -, h3⟩ | ⟨ev, r, -, h1, h2, h3⟩ | ⟨r, hi, h3⟩ <;> rw [h3] at h <;> cases h
  · exact .one (.raised e) (by trivial) rfl
  · exact .sent _ hi rfl
  · exact .two (.event (ev r)) (.event (.evAnyResponse r)) ⟨h1, h2⟩ ⟨Event.noConfusion, fun _ => Event.noConfusion⟩ rfl
  · exact .routed _ hi rfl

/-- What a step does, by the input it takes; `s'` is the state with that input taken off. -/
inductive StepShape (x : Input) (s' t : State) : Prop where
  | presented (e : Encoded) (i : Instr) (hx : x = .present e) (hd : decode s'.cfg e = .ok i) (h : ExecShape i s' t)
  | strobed (o : Output) (h : o.quiet) (ht : t = s'.emit o)
  | opened (hx : x = .transportOpen) (ht : t = transportOpen s')
  | closed (err : Option Nat) (hx : x = .transportClose err) (ht : t = transportClose err s')
  | expired (hx : x = .timerExpiry) (ht : t = timerExpiry s')
  | cancelled (hx : x = .reset) (ht : t = cancelInflight s')
  | searched (v : BitVec 24) (hx : x = .setSearchAddress v) (ht : t = setSearchAddress v s')

/-- Everything a step that answers a next state can do. -/
theorem step_cases {s t : State} (h : step s = .next t) :
    (s.inputs = [] ∧ t = s) ∨ ∃ x rest, s.inputs = x :: rest ∧ StepShape x (s.setInputs rest) t := by
  simp only [step, fetch] at h
  cases hi : s.inputs with
  | nil => rw [hi] at h; cases h; exact .inl ⟨rfl, rfl⟩
  | cons x rest =>
    refine .inr ⟨x, rest, rfl, ?_⟩
    rw [hi] at h
    cases x with
    | present e =>
      simp only [fetchInput, fetchInstr] at h
      cases hd : decode (s.setInputs rest).cfg e with
      | ok i => rw [hd] at h; exact .presented e i rfl hd (exec_shape h)
      | error r =>
        rw [hd] at h
        cases r with
        | raised er =>
          cases h
          cases e with
          | chunk f => exact .strobed (.event (.rxError er f)) ⟨Event.noConfusion, fun _ => Event.noConfusion⟩ rfl
          | word _ => exact .strobed (.raised er) (by trivial) rfl
          | descriptor _ _ _ _ => exact .strobed (.raised er) (by trivial) rfl
          | request _ => exact .strobed (.raised er) (by trivial) rfl
        | codeNotInEnumeration => cases h
        | requestFieldAbsent => cases h
    | codec op =>
      simp only [fetchInput, fetchCodec] at h
      cases hd : op.run (s.setInputs rest).cfg with
      | ok r => rw [hd] at h; cases h; exact .strobed (.result r) (by trivial) rfl
      | error r =>
        rw [hd] at h
        cases r with
        | raised er => cases h; exact .strobed (.raised er) (by trivial) rfl
        | codeNotInEnumeration => cases h
        | requestFieldAbsent => cases h
    | transportOpen => cases h; exact .opened rfl rfl
    | transportClose e => cases h; exact .closed e rfl rfl
    | timerExpiry => cases h; exact .expired rfl rfl
    | reset => cases h; exact .cancelled rfl rfl
    | close => cases h; exact .strobed .closeTransport (by trivial) rfl
    | isOpen => cases h; exact .strobed (.isOpen _) (by trivial) rfl
    | setSearchAddress v => cases h; exact .searched v rfl rfl

end Sys2Proof.Machine
end

