-- ==== Sys2Proof/Tests/Slice0.lean ====
section
/-! SUPPORT. The model's own tests: what WellFormed refuses, one word or frame decoded for each constructor, single steps of the
engine, and a witness for the hypotheses of each statement. Expected results are the spec's (95_test_vectors). -/

namespace Sys2Proof.Tests

open Sys2Proof Sys2Proof.Machine

/-! ## Ill-formed instructions, refused by each check -/

theorem test_wf_missing_value : (Instr.goToScene (some .broadcast) none).wf profileP0 = false := by decide
theorem test_wf_unexpected_value : (Instr.off (some .broadcast) (some 0)).wf profileP0 = false := by decide
theorem test_wf_level_out_of_range : (Instr.directArcPower (some .broadcast) (some 255)).wf profileP0 = false := by decide
theorem test_wf_negative_value : (Instr.goToScene (some .broadcast) (some (-1))).wf profileP0 = false := by decide
theorem test_wf_short_out_of_range : (Instr.programShortAddress none (some 64)).wf profileP0 = false := by decide
theorem test_wf_address_absent : (Instr.off none none).wf profileP0 = false := by decide
theorem test_wf_address_of_special : (Instr.compare (some (.short 5)) none).wf profileP0 = false := by decide
theorem test_wf_request_command : (Instr.send ⟨.addToGroup, some .broadcast, some 16⟩ none).wf profileP0 = false := by decide
theorem test_wf_response_command : (Instr.noResponse (.forward ⟨.off, none, none⟩)).wf profileP0 = false := by decide
theorem test_wf_response_to_null :
    (Instr.response (.answered ⟨.off, some .broadcast, none⟩ ⟨.number 0, .dataByte⟩)).wf profileP0 = false := by decide
theorem test_wf_response_short_range :
    (Instr.response (.answered ⟨.queryShortAddress, none, none⟩ ⟨.number 64, .short⟩)).wf profileP0 = false := by decide
theorem test_wf_response_false_sentinel :
    (Instr.response (.answered ⟨.writeMemoryLocation, none, some 1⟩ ⟨.number 0, .dataByteAndFalse⟩)).wf profileP0 = false := by decide
theorem test_wf_response_value_kind :
    (Instr.response (.answered ⟨.compare, none, none⟩ ⟨.number 1, .boolean⟩)).wf profileP0 = false := by decide
theorem test_wf_config_codes : { profileP0 with ackCodes := ⟨0, 0, 2⟩ }.wf = false := by decide
/-- `Off` on the opcode of `Up`. -/
theorem test_wf_config_opcode_twice :
    { profileP0 with indirectOpcodes := ⟨[(.off, ⟨1, .null, .null⟩)]⟩ }.tablesWf = false := by decide
/-- `Off` on an opcode inside the block of `GoToScene`. -/
theorem test_wf_config_opcode_in_block :
    { profileP0 with indirectOpcodes := ⟨[(.off, ⟨0x1F, .null, .null⟩)]⟩ }.tablesWf = false := by decide
/-- A block that does not start at a multiple of 16. -/
theorem test_wf_config_block_base :
    { profileP0 with indirectOpcodes := ⟨[(.goToScene, ⟨0x11, .scene, .null⟩)]⟩ }.tablesWf = false := by decide
/-- `SearchAddressH` on the code of `SearchAddressM`, and on a code above the special range. -/
theorem test_wf_config_special_twice :
    { profileP0 with specialCodes := ⟨[(.searchAddressH, ⟨265, .random, .null⟩)]⟩ }.tablesWf = false ∧
    { profileP0 with specialCodes := ⟨[(.searchAddressH, ⟨288, .random, .null⟩)]⟩ }.tablesWf = false := by decide
/-- A value type that the source fixes. -/
theorem test_wf_config_source_cell :
    { profileP0 with specialCodes := ⟨[(.searchAddressH, ⟨264, .dataByte, .null⟩)]⟩ }.tablesWf = false := by decide

/-! ## A configuration with other tables: `SearchAddressH` on 263, `Off` on 10 -/

def otherTables : Config :=
  { profileP0 with
    indirectOpcodes := ⟨[(.off, ⟨10, .null, .null⟩)]⟩
    specialCodes := ⟨[(.searchAddressH, ⟨263, .random, .null⟩)]⟩ }

theorem profileP0_wf : profileP0.wf = true := by decide
theorem profileP0_tables : profileP0.defaultTables := defaultTables_of_nil rfl rfl
theorem otherTables_wf : otherTables.wf = true := by decide
/-- 0xA1 + 2 * (263 - 256) is 0xAF, which the default table leaves unassigned; 0xB1 then is. -/
theorem test_other_special :
    toBytecode otherTables ⟨.searchAddressH, none, some 0x12⟩ = 0xAF12 ∧
    fromBytecode otherTables 0xAF12 = .ok ⟨.searchAddressH, none, some 0x12⟩ ∧
    fromBytecode otherTables 0xB112 = .error (.malformedBytecode 0xB112) := by decide
theorem test_other_indirect :
    toBytecode otherTables ⟨.off, some .broadcast, none⟩ = 0xFF0A ∧
    fromBytecode otherTables 0xFF0A = .ok ⟨.off, some .broadcast, none⟩ ∧
    fromBytecode otherTables 0xFF00 = .error (.malformedBytecode 0xFF00) := by decide

/-! ## Decoding: the words of 95 V20 -/

theorem test_decode_directArcPower : decodeTableWord 16 0xFE7F = some (.directArcPower (some .broadcast) (some 127)) := by decide
theorem test_decode_off : decodeTableWord 16 0xFF00 = some (.off (some .broadcast) none) := by decide
theorem test_decode_up : decodeTableWord 16 0x8701 = some (.up (some (.group 3)) none) := by decide
theorem test_decode_down : decodeTableWord 16 0x1502 = some (.down (some (.short 10)) none) := by decide
theorem test_decode_stepUp : decodeTableWord 16 0xFF03 = some (.stepUp (some .broadcast) none) := by decide
theorem test_decode_stepDown : decodeTableWord 16 0x7F04 = some (.stepDown (some (.short 63)) none) := by decide
theorem test_decode_recallMaxLevel : decodeTableWord 16 0xFF05 = some (.recallMaxLevel (some .broadcast) none) := by decide
theorem test_decode_recallMinLevel : decodeTableWord 16 0x8106 = some (.recallMinLevel (some (.group 0)) none) := by decide
theorem test_decode_stepDownAndOff : decodeTableWord 16 0x0307 = some (.stepDownAndOff (some (.short 1)) none) := by decide
theorem test_decode_onAndStepUp : decodeTableWord 16 0x9F08 = some (.onAndStepUp (some (.group 15)) none) := by decide
theorem test_decode_enableDAPCSequence : decodeTableWord 16 0xFF09 = some (.enableDAPCSequence (some .broadcast) none) := by decide
theorem test_decode_goToScene : decodeTableWord 16 0xFF10 = some (.goToScene (some .broadcast) (some 0)) := by decide
theorem test_decode_reset : decodeTableWord 16 0xFF20 = some (.reset (some .broadcast) none) := by decide
theorem test_decode_storeActualLevelInDTR : decodeTableWord 16 0x0721 = some (.storeActualLevelInDTR (some (.short 3)) none) := by decide
theorem test_decode_storeDTRAsMaxLevel : decodeTableWord 16 0x072A = some (.storeDTRAsMaxLevel (some (.short 3)) none) := by decide
theorem test_decode_storeDTRAsMinLevel : decodeTableWord 16 0x892B = some (.storeDTRAsMinLevel (some (.group 4)) none) := by decide
theorem test_decode_storeDTRAsSystemFailureLevel : decodeTableWord 16 0xFF2C = some (.storeDTRAsSystemFailureLevel (some .broadcast) none) := by decide
theorem test_decode_storeDTRAsPowerOnLevel : decodeTableWord 16 0x012D = some (.storeDTRAsPowerOnLevel (some (.short 0)) none) := by decide
theorem test_decode_storeDTRAsFadeTime : decodeTableWord 16 0x292E = some (.storeDTRAsFadeTime (some (.short 20)) none) := by decide
theorem test_decode_storeDTRAsFadeRate : decodeTableWord 16 0x292F = some (.storeDTRAsFadeRate (some (.short 20)) none) := by decide
theorem test_decode_storeDTRasScene : decodeTableWord 16 0x0344 = some (.storeDTRasScene (some (.short 1)) (some 4)) := by decide
theorem test_decode_removeScene : decodeTableWord 16 0xFF5F = some (.removeScene (some .broadcast) (some 15)) := by decide
theorem test_decode_addToGroup : decodeTableWord 16 0x1360 = some (.addToGroup (some (.short 9)) (some 0)) := by decide
theorem test_decode_removeFromGroup : decodeTableWord 16 0x1377 = some (.removeFromGroup (some (.short 9)) (some 7)) := by decide
theorem test_decode_storeDTRAsShortAddress : decodeTableWord 16 0xFF80 = some (.storeDTRAsShortAddress (some .broadcast) none) := by decide
theorem test_decode_enableWriteMemory : decodeTableWord 16 0x0581 = some (.enableWriteMemory (some (.short 2)) none) := by decide
theorem test_decode_queryStatus : decodeTableWord 16 0x0590 = some (.queryStatus (some (.short 2)) none) := by decide
theorem test_decode_queryControlGear : decodeTableWord 16 0xFF91 = some (.queryControlGear (some .broadcast) none) := by decide
theorem test_decode_queryLampFailure : decodeTableWord 16 0x3F92 = some (.queryLampFailure (some (.short 31)) none) := by decide
theorem test_decode_queryLampPowerOn : decodeTableWord 16 0x3F93 = some (.queryLampPowerOn (some (.short 31)) none) := by decide
theorem test_decode_queryLimitError : decodeTableWord 16 0x8394 = some (.queryLimitError (some (.group 1)) none) := by decide
theorem test_decode_queryResetState : decodeTableWord 16 0x0195 = some (.queryResetState (some (.short 0)) none) := by decide
theorem test_decode_queryMissingShortAddress : decodeTableWord 16 0xFF96 = some (.queryMissingShortAddress (some .broadcast) none) := by decide
theorem test_decode_queryVersionNumber : decodeTableWord 16 0x0197 = some (.queryVersionNumber (some (.short 0)) none) := by decide
theorem test_decode_queryContentDTR : decodeTableWord 16 0x1998 = some (.queryContentDTR (some (.short 12)) none) := by decide
theorem test_decode_queryDeviceType : decodeTableWord 16 0x1999 = some (.queryDeviceType (some (.short 12)) none) := by decide
theorem test_decode_queryPhysicalMinimum : decodeTableWord 16 0x199A = some (.queryPhysicalMinimum (some (.short 12)) none) := by decide
theorem test_decode_queryPowerFailure : decodeTableWord 16 0x199B = some (.queryPowerFailure (some (.short 12)) none) := by decide
theorem test_decode_queryContentDTR1 : decodeTableWord 16 0x199C = some (.queryContentDTR1 (some (.short 12)) none) := by decide
theorem test_decode_queryContentDTR2 : decodeTableWord 16 0x199D = some (.queryContentDTR2 (some (.short 12)) none) := by decide
theorem test_decode_queryActualLevel : decodeTableWord 16 0x03A0 = some (.queryActualLevel (some (.short 1)) none) := by decide
theorem test_decode_queryMaxLevel : decodeTableWord 16 0x03A1 = some (.queryMaxLevel (some (.short 1)) none) := by decide
theorem test_decode_queryMinLevel : decodeTableWord 16 0x03A2 = some (.queryMinLevel (some (.short 1)) none) := by decide
theorem test_decode_queryPowerOnLevel : decodeTableWord 16 0x03A3 = some (.queryPowerOnLevel (some (.short 1)) none) := by decide
theorem test_decode_querySystemFailureLevel : decodeTableWord 16 0x03A4 = some (.querySystemFailureLevel (some (.short 1)) none) := by decide
theorem test_decode_queryFadeTimeRate : decodeTableWord 16 0x03A5 = some (.queryFadeTimeRate (some (.short 1)) none) := by decide
theorem test_decode_querySceneLevel : decodeTableWord 16 0x03B0 = some (.querySceneLevel (some (.short 1)) (some 0)) := by decide
theorem test_decode_queryGroups0to7 : decodeTableWord 16 0x11C0 = some (.queryGroups0to7 (some (.short 8)) none) := by decide
theorem test_decode_queryGroups8to15 : decodeTableWord 16 0x11C1 = some (.queryGroups8to15 (some (.short 8)) none) := by decide
theorem test_decode_queryRandomAddressH : decodeTableWord 16 0x11C2 = some (.queryRandomAddressH (some (.short 8)) none) := by decide
theorem test_decode_queryRandomAddressM : decodeTableWord 16 0x11C3 = some (.queryRandomAddressM (some (.short 8)) none) := by decide
theorem test_decode_queryRandomAddressL : decodeTableWord 16 0x11C4 = some (.queryRandomAddressL (some (.short 8)) none) := by decide
theorem test_decode_readMemoryLocation : decodeTableWord 16 0x11C5 = some (.readMemoryLocation (some (.short 8)) none) := by decide
theorem test_decode_extendedVersionNumber : decodeTableWord 16 0xFFFF = some (.extendedVersionNumber (some .broadcast) none) := by decide
theorem test_decode_terminate : decodeTableWord 16 0xA100 = some (.terminate none none) := by decide
theorem test_decode_dataTransferRegister : decodeTableWord 16 0xA300 = some (.dataTransferRegister none (some 0)) := by decide
theorem test_decode_initialise : decodeTableWord 16 0xA500 = some (.initialise none (some 0)) := by decide
theorem test_decode_randomize : decodeTableWord 16 0xA700 = some (.randomize none none) := by decide
theorem test_decode_compare : decodeTableWord 16 0xA900 = some (.compare none none) := by decide
theorem test_decode_withdraw : decodeTableWord 16 0xAB00 = some (.withdraw none none) := by decide
theorem test_decode_ping : decodeTableWord 16 0xAD00 = some (.ping none none) := by decide
theorem test_decode_searchAddressH : decodeTableWord 16 0xB112 = some (.searchAddressH none (some 18)) := by decide
theorem test_decode_searchAddressM : decodeTableWord 16 0xB334 = some (.searchAddressM none (some 52)) := by decide
theorem test_decode_searchAddressL : decodeTableWord 16 0xB556 = some (.searchAddressL none (some 86)) := by decide
theorem test_decode_programShortAddress : decodeTableWord 16 0xB701 = some (.programShortAddress none (some 0)) := by decide
theorem test_decode_verifyShortAddress : decodeTableWord 16 0xB90B = some (.verifyShortAddress none (some 5)) := by decide
theorem test_decode_queryShortAddress : decodeTableWord 16 0xBB00 = some (.queryShortAddress none none) := by decide
theorem test_decode_physicalSelection : decodeTableWord 16 0xBD00 = some (.physicalSelection none none) := by decide
theorem test_decode_enableDeviceOfType : decodeTableWord 16 0xC106 = some (.enableDeviceOfType none (some 6)) := by decide
theorem test_decode_setDTR1 : decodeTableWord 16 0xC300 = some (.setDTR1 none (some 0)) := by decide
theorem test_decode_setDTR2 : decodeTableWord 16 0xC5FF = some (.setDTR2 none (some 255)) := by decide
theorem test_decode_writeMemoryLocation : decodeTableWord 16 0xC7A5 = some (.writeMemoryLocation none (some 165)) := by decide

/-! ## Decoding: the frames of 95 V90 (profile `P0`) and request records -/

theorem test_decode_response :
    decode profileP0 (.chunk [0x01, 0x30, 0x33, 0x31, 0x30, 0x46, 0x46, 0x39, 0x30, 0x30, 0x38, 0x30, 0x35, 0x35, 0x30, 0x17]) =
      .ok (.response (.answered ⟨.queryStatus, some .broadcast, none⟩ ⟨.number 5, .dataByte⟩)) := by
  decide
theorem test_decode_distinctResponse :
    decode profileP0 (.chunk [0x01, 0x30, 0x44, 0x31, 0x30, 0x42, 0x42, 0x30, 0x30, 0x30, 0x38, 0x30, 0x42, 0x31, 0x34, 0x17]) =
      .ok (.distinctResponse (.answered ⟨.queryShortAddress, none, none⟩ ⟨.number 5, .short⟩)) := by
  decide
theorem test_decode_noResponse :
    decode profileP0 (.chunk [0x01, 0x30, 0x34, 0x31, 0x30, 0x46, 0x46, 0x30, 0x30, 0x45, 0x43, 0x17]) =
      .ok (.noResponse (.forward ⟨.off, some .broadcast, none⟩)) := by
  decide
theorem test_decode_distinctNoResponse :
    decode profileP0 (.chunk [0x01, 0x30, 0x45, 0x31, 0x30, 0x46, 0x45, 0x37, 0x46, 0x36, 0x34, 0x17]) =
      .ok (.distinctNoResponse (.forward ⟨.directArcPower, some .broadcast, some 127⟩)) := by
  decide
theorem test_decode_confResponse :
    decode profileP0 (.chunk [0x01, 0x30, 0x36, 0x30, 0x32, 0x41, 0x42, 0x43, 0x44, 0x37, 0x46, 0x17]) =
      .ok (.confResponse 2 0xABCD) := by
  decide
theorem test_decode_confChangeAck :
    decode profileP0 (.chunk [0x01, 0x30, 0x38, 0x30, 0x32, 0x41, 0x42, 0x43, 0x44, 0x30, 0x30, 0x37, 0x44, 0x17]) =
      .ok (.confChangeAck 2 0xABCD .set) := by
  decide
theorem test_decode_specReceived :
    decode profileP0 (.chunk [0x01, 0x30, 0x39, 0x30, 0x35, 0x46, 0x31, 0x17]) =
      .ok (.specReceived .checksumError) := by
  decide
theorem test_decode_firmwareResetAck :
    decode profileP0 (.chunk [0x01, 0x31, 0x30, 0x45, 0x46, 0x17]) =
      .ok (.firmwareResetAck) := by
  decide
theorem test_decode_send :
    decode profileP0 (.request ⟨.send, some ⟨.off, none, none⟩, some 5, some true, none, none, none⟩) =
      .ok (.send ⟨.off, none, none⟩ (some 5)) := by
  decide
theorem test_decode_distinctSend :
    decode profileP0 (.request ⟨.distinctSend, some ⟨.randomize, none, none⟩, none, some true, some false, none, none⟩) =
      .ok (.distinctSend ⟨.randomize, none, none⟩ none (some true) (some false)) := by
  decide
theorem test_decode_continuousSend :
    decode profileP0 (.request ⟨.continuousSend, some ⟨.up, some (.group 3), none⟩, none, some true, none, none, none⟩) =
      .ok (.continuousSend ⟨.up, some (.group 3), none⟩ none (some true)) := by
  decide
theorem test_decode_confQuery :
    decode profileP0 (.request ⟨.confQuery, none, none, none, none, some 10, none⟩) =
      .ok (.confQuery 10 none) := by
  decide
theorem test_decode_confChange :
    decode profileP0 (.request ⟨.confChange, none, none, none, none, some 2, some 0xABCD⟩) =
      .ok (.confChange 2 0xABCD none) := by
  decide
theorem test_decode_sequenceEnd :
    decode profileP0 (.request ⟨.sequenceEnd, none, none, none, none, none, none⟩) =
      .ok (.sequenceEnd none) := by
  decide
theorem test_decode_firmwareReset :
    decode profileP0 (.request ⟨.firmwareReset, none, none, some true, none, none, none⟩) =
      .ok (.firmwareReset (some true)) := by
  decide
theorem test_decode_descriptor : decode profileP0 (.descriptor 0 (some 3) (some 99) none) = .ok (.off (some (.short 3)) none) := by
  decide
theorem test_decode_descriptor_member : decode profileP0 (.descriptor 263 none none none) = .error .codeNotInEnumeration := by
  decide
theorem test_decode_reserved_word : decodeTableWord 16 0xE000 = none := by decide
theorem test_decode_unassigned_special : decodeTableWord 16 0xAF00 = none := by decide
theorem test_decode_lowercase : decode profileP0 (.chunk [0x01, 0x30, 0x64, 0x30, 0x30, 0x46, 0x32, 0x17]) =
    .error (.raised .protocolError) := by
  decide

/-! ## States -/

/-- 95, section 7: "Ready". -/
def ready : State := { State.reset with eng := ⟨.running, true, false, true, false, none, none⟩ }

/-- Ready with a request in flight, its completion 1. -/
def busy (k : Nat) : State :=
  { ready with eng := { ready.eng with inflight := some ⟨bareRequest ⟨.queryActualLevel, some (.short 1), none⟩, k, 1⟩ }, nextCompletion := 2 }

/-- Ready with the sequencer in a phase, its completion 1 and the inner one 2. -/
def searching (p : SeqPhase) (rs : List FoxtronResponse) : State :=
  { ready with
    eng := { ready.eng with
      inflight := some ⟨bareRequest (searchCommand p 0x123456), 1, 2⟩
      seq := some ⟨p, 0x123456, rs, 1⟩ }
    nextCompletion := 3 }

/-- An engine that waits for its boot timer, DTR asserted (95 V100.21). -/
def waiting : State :=
  { State.construct { profileP0 with bootMethod := .setDTR } with eng := ⟨.waitingForBoot, true, true, false, true, none, none⟩ }

/-- A destroyed engine (95 V100.26). -/
def dead : State := { State.reset with eng := ⟨.destroyed, false, false, true, false, none, none⟩ }

/-- The outputs and the engine state a step leaves. -/
def after (x : Input) (s : State) : Option (List Output × Engine) :=
  match step { s with inputs := [x] } with
  | .next t => some (t.outputs, t.eng)
  | .fault _ => none
  | .refused _ => none

/-! ## Single steps: the vectors of 95 V100 and V80 -/

/-- V100.3 -/
theorem test_step_bare_command :
    after (.present (.word 0xFF00)) ready =
      some ([.tx [0x01, 0x30, 0x42, 0x30, 0x30, 0x31, 0x30, 0x46, 0x46, 0x30, 0x30, 0x30, 0x30, 0x45, 0x35, 0x17], .returned 1],
        { ready.eng with inflight := some ⟨bareRequest ⟨.off, some .broadcast, none⟩, 1, 1⟩ }) := by
  decide
/-- V80.8 -/
theorem test_step_level :
    after (.present (.word 0xFE7F)) ready =
      some ([.tx [0x01, 0x30, 0x42, 0x30, 0x30, 0x31, 0x30, 0x46, 0x45, 0x37, 0x46, 0x30, 0x30, 0x36, 0x37, 0x17], .returned 1],
        { ready.eng with inflight := some ⟨bareRequest ⟨.directArcPower, some .broadcast, some 127⟩, 1, 1⟩ }) := by
  decide
/-- V80.15 -/
theorem test_step_program_short :
    after (.present (.word 0xB70B)) ready =
      some ([.tx [0x01, 0x30, 0x42, 0x30, 0x30, 0x31, 0x30, 0x42, 0x37, 0x30, 0x42, 0x30, 0x30, 0x32, 0x32, 0x17], .returned 1],
        { ready.eng with inflight := some ⟨bareRequest ⟨.programShortAddress, none, some 5⟩, 1, 1⟩ }) := by
  decide
/-- V100.1 -/
theorem test_step_not_open :
    after (.present (.word 0xFF00)) State.reset =
      some ([.resolve 1 (.response (.specReceived .channelNotOpen)), .returned 1],
        State.reset.eng) := by
  decide
/-- V100.4 -/
theorem test_step_double_send :
    after (.present (.request ⟨.distinctSend, some ⟨.randomize, none, none⟩, none, some true, none, none, none⟩)) ready =
      some ([.tx [0x01, 0x30, 0x42, 0x30, 0x30, 0x31, 0x30, 0x41, 0x37, 0x30, 0x30, 0x30, 0x31, 0x33, 0x43, 0x17], .returned 1],
        { ready.eng with inflight := some ⟨.distinctSend ⟨.randomize, none, none⟩ none (some true) none, 2, 1⟩ }) := by
  decide
/-- V100.5 -/
theorem test_step_continuous :
    after (.present (.request ⟨.continuousSend, some ⟨.up, some (.group 3), none⟩, none, some true, none, none, none⟩)) ready =
      some ([.tx [0x01, 0x30, 0x41, 0x30, 0x30, 0x31, 0x30, 0x38, 0x37, 0x30, 0x31, 0x35, 0x44, 0x17], .returned 1],
        { ready.eng with inflight := some ⟨.continuousSend ⟨.up, some (.group 3), none⟩ none (some true), 2, 1⟩ }) := by
  decide
/-- V100.6 -/
theorem test_step_plain_send_busy :
    after (.present (.request ⟨.send, some ⟨.recallMaxLevel, none, none⟩, some 5, none, none, none, none⟩)) (busy 1) =
      some ([.tx [0x01, 0x30, 0x31, 0x30, 0x35, 0x31, 0x30, 0x46, 0x46, 0x30, 0x35, 0x45, 0x35, 0x17], .resolve 2 .nothing, .returned 2],
        (busy 1).eng) := by
  decide
/-- V100.7 -/
theorem test_step_in_flight :
    after (.present (.word 0x03A0)) (busy 1) =
      some ([.raised .requestAlreadyInFlight],
        (busy 1).eng) := by
  decide
/-- V100.9 -/
theorem test_step_forbidden :
    after (.present (.request ⟨.firmwareReset, none, none, none, none, none, none⟩)) ready =
      some ([.raised .forbiddenOperation],
        { ready.eng with inflight := some ⟨.firmwareReset none, 1, 1⟩ }) := by
  decide
/-- V80.21 -/
theorem test_step_conf_change_even :
    after (.present (.request ⟨.confChange, none, none, none, none, some 2, some 0xABCD⟩)) ready =
      some ([.tx [0x01, 0x30, 0x37, 0x30, 0x32, 0x41, 0x42, 0x43, 0x44, 0x37, 0x45, 0x17], .returned 1],
        { ready.eng with inflight := some ⟨.confChange 2 0xABCD none, 1, 1⟩ }) := by
  decide
/-- V80.24 -/
theorem test_step_conf_change_odd :
    after (.present (.request ⟨.confChange, none, none, none, none, some 3, some 0x1234⟩)) ready =
      some ([.tx [0x01, 0x30, 0x37, 0x30, 0x33, 0x33, 0x34, 0x43, 0x31, 0x17], .returned 1],
        { ready.eng with inflight := some ⟨.confChange 3 0x1234 none, 1, 1⟩ }) := by
  decide
/-- V80.26 -/
theorem test_step_sequence_end :
    after (.present (.request ⟨.sequenceEnd, none, none, none, none, none, none⟩)) ready =
      some ([.tx [0x01, 0x30, 0x43, 0x30, 0x30, 0x46, 0x33, 0x17], .returned 1],
        { ready.eng with inflight := some ⟨.sequenceEnd none, 1, 1⟩ }) := by
  decide
/-- V80.18 -/
theorem test_step_conf_query :
    after (.present (.request ⟨.confQuery, none, none, none, none, some 10, none⟩)) ready =
      some ([.tx [0x01, 0x30, 0x35, 0x30, 0x41, 0x46, 0x30, 0x17], .returned 1],
        { ready.eng with inflight := some ⟨.confQuery 10 none, 1, 1⟩ }) := by
  decide
/-- V100.10 -/
theorem test_step_echo_dropped :
    after (.present (.chunk [0x01, 0x30, 0x45, 0x31, 0x30, 0x46, 0x46, 0x30, 0x30, 0x45, 0x32, 0x17])) ready =
      some ([],
        ready.eng) := by
  decide
/-- V100.11 -/
theorem test_step_echo_held :
    after (.present (.chunk [0x01, 0x30, 0x45, 0x31, 0x30, 0x41, 0x37, 0x30, 0x30, 0x33, 0x41, 0x17])) (busy 2) =
      some ([],
        (busy 1).eng) := by
  decide
/-- V100.13 -/
theorem test_step_echo_completes :
    after (.present (.chunk [0x01, 0x30, 0x44, 0x31, 0x30, 0x42, 0x42, 0x30, 0x30, 0x30, 0x38, 0x30, 0x42, 0x31, 0x34, 0x17])) (busy 1) =
      some ([.resolve 1 (.response (.distinctResponse (.answered ⟨.queryShortAddress, none, none⟩ ⟨.number 5, .short⟩)))],
        ready.eng) := by
  decide
/-- V100.15 -/
theorem test_step_rx_error :
    after (.present (.chunk [0x01, 0x30, 0x45, 0x31, 0x30, 0x41, 0x30, 0x30, 0x30, 0x34, 0x31, 0x17])) (busy 1) =
      some ([.event (.rxError (.malformedBytecode 0xA000) [0x01, 0x30, 0x45, 0x31, 0x30, 0x41, 0x30, 0x30, 0x30, 0x34, 0x31, 0x17])],
        (busy 1).eng) := by
  decide
/-- V100.16 -/
theorem test_step_unsolicited :
    after (.present (.chunk [0x01, 0x30, 0x39, 0x30, 0x31, 0x46, 0x35, 0x17])) (busy 1) =
      some ([.event (.evSpecReceived (.specReceived .voltageLoss)), .event (.evAnyResponse (.specReceived .voltageLoss))],
        (busy 1).eng) := by
  decide
/-- V100.19 -/
theorem test_step_open_no_boot :
    after (.transportOpen) State.reset =
      some ([.event .sessionOpen],
        ready.eng) := by
  decide
/-- V100.21 -/
theorem test_step_open_dtr :
    after (.transportOpen) (State.construct { profileP0 with bootMethod := .setDTR }) =
      some ([.setLine true, .startTimer 3000],
        waiting.eng) := by
  decide
/-- V100.23 -/
theorem test_step_timer :
    after (.timerExpiry) waiting =
      some ([.event .sessionOpen],
        ⟨.running, true, false, true, true, none, none⟩) := by
  decide
/-- V100.26 -/
theorem test_step_close_busy :
    after (.transportClose none) (busy 1) =
      some ([.reject 1 .cancelled, .event (.sessionClosed none)],
        dead.eng) := by
  decide
/-- V100.29 -/
theorem test_step_reset_busy :
    after (.reset) (busy 1) =
      some ([.reject 1 .cancelled],
        ready.eng) := by
  decide
/-- V100.32 -/
theorem test_step_search :
    after (.setSearchAddress 0x123456) ready =
      some ([.tx [0x01, 0x30, 0x42, 0x30, 0x30, 0x31, 0x30, 0x42, 0x31, 0x31, 0x32, 0x30, 0x30, 0x32, 0x31, 0x17], .returned 1],
        (searching .h []).eng) := by
  decide
/-- V100.33 -/
theorem test_step_search_busy :
    after (.setSearchAddress 1) (busy 1) =
      some ([.reject 2 .requestAlreadyInFlight, .returned 2],
        (busy 1).eng) := by
  decide
/-- V100.34 -/
theorem test_step_search_twice :
    after (.setSearchAddress 1) (searching .m [.distinctNoResponse .noForward]) =
      some ([.raised .requestAlreadyInFlight],
        (searching .m [.distinctNoResponse .noForward]).eng) := by
  decide
/-- V60.21 -/
theorem test_short_answer : decodeResponse profileP0 0xFF .queryShortAddress = .ok ⟨.number 63, .short⟩ := by decide
/-- V73: `checksum("ABC")` -/
theorem test_checksum_odd : checksum [0xA, 0xB, 0xC] = [3, 9] := by decide
/-- V4 -/
theorem test_level_of_half : levelOfFraction 1 2 = 127 := by decide
/-- V95.2: a wrong checksum, verified -/
theorem test_verify : frameDecode { profileP0 with verifyRxChecksum := true } [0x01, 0x30, 0x34, 0x31, 0x30, 0x46, 0x46, 0x30, 0x30, 0x45, 0x44, 0x17] =
    .error .protocolError := by
  decide

/-! ## Witnesses: states and operands that meet the hypotheses of each statement, at the boundary of each clause -/

theorem witness_EncodeDecodeAgree :
    profileP0.wf = true ∧ (Instr.directArcPower (some (.short 63)) (some 254)).wf profileP0 = true ∧
    (Instr.distinctResponse (.answered ⟨.extendedVersionNumber, some (.group 15), none⟩ ⟨.flag false, .dataByteAndFalse⟩)).wf profileP0 = true ∧
    (Instr.distinctSend ⟨.verifyShortAddress, none, some 63⟩ (some (-1)) none (some true)).wf profileP0 = true :=
  by decide
theorem witness_ConstructedCommandRoundTrips :
    profileP0.wf = true ∧ construct profileP0 .goToScene none (some 15) = .ok ⟨.goToScene, some .broadcast, some 15⟩ ∧
    construct profileP0 .goToScene (some .broadcast) (some 15) = .ok ⟨.goToScene, some .broadcast, some 15⟩ :=
  by decide
theorem witness_DecodedWordReencodes :
    profileP0.wf = true ∧ fromBytecode profileP0 0xB77F = .ok ⟨.programShortAddress, none, some 63⟩ :=
  by decide
theorem witness_IllegalWordsAreMalformed :
    profileP0.defaultTables ∧ illegalWord 0xFEFF = true ∧ illegalWord 0xFEFE = false ∧ illegalWord 0xA101 = true ∧ illegalWord 0xB7FF = true ∧
    illegalWord 0xE000 = true ∧ illegalWord 0xFFFF = false :=
  ⟨profileP0_tables, by decide⟩
theorem witness_SelectorBitMarksLevels :
    profileP0.wf = true ∧ (DALICommand.mk .terminate none none).valid profileP0 = true ∧ 256 ≤ profileP0.number .terminate ∧
    (DALICommand.mk .directArcPower (some .broadcast) (some 0)).valid profileP0 = true :=
  by decide
theorem witness_ForwardWordAssembly :
    profileP0.wf = true ∧ ((DALICommand.mk .directArcPower (some .broadcast) (some 254)).valid profileP0 = true ∧ profileP0.number .directArcPower = -1) ∧
    ((DALICommand.mk .off (some (.short 0)) none).valid profileP0 = true ∧ profileP0.number .off = 0) ∧
    ((DALICommand.mk .querySceneLevel (some (.short 0)) (some 15)).valid profileP0 = true ∧ cmdValueType profileP0 .querySceneLevel = .scene) ∧
    ((DALICommand.mk .extendedVersionNumber (some (.short 0)) none).valid profileP0 = true ∧ profileP0.number .extendedVersionNumber = 255) ∧
    ((DALICommand.mk .terminate none none).valid profileP0 = true ∧ profileP0.number .terminate = 256 ∧ cmdValueType profileP0 .terminate = .null) ∧
    ((DALICommand.mk .verifyShortAddress none (some 63)).valid profileP0 = true ∧ cmdValueType profileP0 .verifyShortAddress = .short) ∧
    ((DALICommand.mk .writeMemoryLocation none (some 255)).valid profileP0 = true ∧ cmdValueType profileP0 .writeMemoryLocation = .dataByte) :=
  by decide
theorem witness_ConstructContract :
    profileP0.wf = true ∧ cmdValueType profileP0 .off = .null ∧ cmdValueType profileP0 .directArcPower ≠ .null ∧
    (contractBounds (cmdValueType profileP0 .directArcPower) .directArcPower = (0, 254) ∧ (254 : Value).toInt ≤ 254 ∧ 254 < (255 : Value).toInt ∧
      (-1 : Value).toInt < 0) :=
  by decide
theorem witness_DescriptorsDecode :
    ((0 : Value).toInt = 0 ∧ (63 : Value).toInt ≤ 63) ∧ (63 < (64 : Value).toInt ∧ (-1 : Value).toInt < 0) ∧
    (0 ≤ (15 : Value).toInt ∧ (15 : Value).toInt ≤ 15) ∧ 15 < (16 : Value).toInt ∧
    (profileP0.wf = true ∧ addressOf (some 63) none = .ok (.short 63) ∧ addressOf none (some 16) = .error (.validationError (.valueOutOfRange 0 15))) :=
  by decide
theorem witness_ChecksumFunction :
    (([1, 0, 0, 1, 0, 0xF, 0xF, 1, 0] : HexString).length) % 2 = 1 :=
  by decide
theorem witness_ValidFrameSumsTo255 :
    ([0x04, 0x10, 0xFF, 0x00] : List Byte) ≠ [] :=
  by decide
theorem witness_RequestFrameLayouts :
    profileP0.wf = true ∧ (0 ≤ (5 : Value).toInt ∧ (5 : Value).toInt ≤ 5) ∧ 5 < (6 : Value).toInt ∧ (-1 : Value).toInt < 0 :=
  by decide
theorem witness_EncodedFramesAreWellFramed :
    (FoxtronRequest.firmwareReset none).type = .firmwareReset ∧ (FoxtronRequest.sequenceEnd none).type ≠ .firmwareReset :=
  by decide
theorem witness_AnswersDecodeByResponseType :
    profileP0.defaultTables ∧ respValueType profileP0 .compare = .boolean ∧ respValueType profileP0 .queryStatus = .dataByte ∧
    respValueType profileP0 .queryRandomAddressH = .random ∧ respValueType profileP0 .queryShortAddress = .short ∧
    respValueType profileP0 .writeMemoryLocation = .dataByteAndFalse ∧ (0 : Byte) = 0 ∧ (1 : Byte) ≠ 0 :=
  ⟨profileP0_tables, by decide⟩
theorem witness_NullContractAnswersRaise :
    profileP0.wf = true ∧ profileP0.defaultTables :=
  ⟨profileP0_wf, profileP0_tables⟩
theorem witness_BenchFramesDecodeToTheirFields :
    profileP0.wf = true ∧ (DALICommand.mk .compare none none).valid profileP0 = true ∧
    decodeResponse profileP0 0 .compare = .ok ⟨.flag false, .boolean⟩ :=
  by decide
theorem witness_LengthFieldsDecide :
    profileP0.wf = true ∧ ((15 : Byte) ≠ 0 ∧ (15 : Byte) ≠ 16) ∧ fromBytecode profileP0 0xA000 = .error (.malformedBytecode 0xA000) ∧
    (DALICommand.mk .off (some .broadcast) none).valid profileP0 = true ∧ ((9 : Byte) ≠ 0 ∧ (9 : Byte) ≠ 8) ∧ respValueType profileP0 .off = .null :=
  by decide
theorem witness_UnmappedCodesAreRefused :
    profileP0.wf = true ∧ (∀ a : AckFlag, profileP0.ackFlagCode a ≠ 3) ∧ ∀ m : SpecialMessage, profileP0.specCode m ≠ 8 :=
  ⟨profileP0_wf, fun a => by cases a <;> decide, fun m => by cases m <;> decide⟩
theorem witness_UnknownTypeIsRefused :
    frameAccepted profileP0 [0x01, 0x30, 0x31, 0x46, 0x45, 0x17] = true ∧ unhex2 [0x01, 0x30, 0x31, 0x46, 0x45, 0x17] 1 = .ok 0x01 ∧
    ∀ ty : ResponseType, profileP0.rspTypeCode ty ≠ 0x01 :=
  ⟨by decide, by decide, fun t => by cases t <;> decide⟩
theorem witness_FrameDecodeErrors :
    ([] : List Byte).head? ≠ some soh :=
  by decide
theorem witness_ChecksumVerificationOnlyFilters :
    { profileP0 with verifyRxChecksum := true }.verifyRxChecksum = true ∧ ([0x01, 0x30, 0x39, 0x30, 0x31] : List Byte).length < 6 ∧
    (6 ≤ ([0x01, 0x30, 0x34, 0x46, 0x42, 0x30] : List Byte).length ∧ ([0x01, 0x30, 0x34, 0x46, 0x42, 0x30] : List Byte).getLast? ≠ some etb) ∧
    checksumValid [0x01, 0x30, 0x34, 0x31, 0x30, 0x46, 0x46, 0x30, 0x30, 0x45, 0x44, 0x17] = false ∧
    (6 ≤ ([0x01, 0x30, 0x34, 0x31, 0x30, 0x46, 0x46, 0x30, 0x30, 0x45, 0x43, 0x17] : List Byte).length ∧ ([0x01, 0x30, 0x34, 0x31, 0x30, 0x46, 0x46, 0x30, 0x30, 0x45, 0x43, 0x17] : List Byte).getLast? = some etb ∧ checksumValid [0x01, 0x30, 0x34, 0x31, 0x30, 0x46, 0x46, 0x30, 0x30, 0x45, 0x43, 0x17] = true) ∧
    (profileP0.verifyRxChecksum = false ∧ profileP0.wf = true) :=
  by decide
theorem witness_StepRunsTheDecodedInstruction :
    ({ ready with inputs := [.present (.word 0xFF00)] } : State).inputs = [.present (.word 0xFF00)] ∧
    decode profileP0 (.word 0xFF00) = .ok (.off (some .broadcast) none) :=
  by decide
theorem witness_StepRunsThePresentedOperation :
    ready.inputs = [] ∧ ({ ready with inputs := [.reset] } : State).inputs = [.reset] :=
  by decide
theorem witness_UndecodableInputsAreDelivered :
    frameDecode profileP0 [] = .error .protocolError ∧ fromBytecode profileP0 0xA000 = .error (.malformedBytecode 0xA000) ∧
    (profileP0.codeOf 0 = some .off ∧ addressOf (some 64) none = .error (.validationError (.valueOutOfRange 0 63))) :=
  by decide
theorem witness_StepStopsOnlyOnTheUnpresentable :
    ({ ready with inputs := [.present (.descriptor 263 none none none)] } : State).inputs = [.present (.descriptor 263 none none none)] ∧
    ready.cfg.codeOf 263 = none ∧ lacksField (.bare .send) ∧ lacksField (.bare .confQuery) ∧
    lacksField { RequestRecord.bare .confChange with itemIndex := some 0 } ∧
    step { ready with inputs := [.present (.descriptor 263 none none none)] } = .refused .codeNotInEnumeration ∧
    step { ready with inputs := [.present (.request (.bare .send))] } = .refused .requestFieldAbsent :=
  ⟨rfl, by decide, .inl ⟨by decide, rfl⟩, .inr (.inl ⟨by decide, rfl⟩), .inr (.inr ⟨rfl, rfl⟩), rfl, rfl⟩
theorem witness_PureOperationsTouchNoEngineState :
    (CodecOp.checksum [0, 1]).run profileP0 = .ok (.hex [0xF, 0xE]) ∧
    (CodecOp.fromBytecode 0xA000).run profileP0 = .error (.raised (.malformedBytecode 0xA000)) :=
  by decide
theorem witness_LevelCommandsTransmit :
    ready.cfg.defaultTables ∧ ready.eng.usable = true ∧ ready.eng.inflight = none ∧
    (0 ≤ (0 : Value).toInt ∧ (254 : Value).toInt ≤ 254) ∧ (0 ≤ (0 : Value).toInt ∧ (15 : Value).toInt ≤ 15) :=
  ⟨profileP0_tables, by decide⟩
theorem witness_ConfigurationCommandsTransmit :
    ready.cfg.defaultTables ∧ ready.eng.usable = true ∧ ready.eng.inflight = none ∧
    (0 ≤ (0 : Value).toInt ∧ (15 : Value).toInt ≤ 15) :=
  ⟨profileP0_tables, by decide⟩
theorem witness_QueryCommandsTransmit :
    ready.cfg.defaultTables ∧ ready.eng.usable = true ∧ ready.eng.inflight = none ∧
    (0 ≤ (0 : Value).toInt ∧ (15 : Value).toInt ≤ 15) :=
  ⟨profileP0_tables, by decide⟩
theorem witness_SpecialCommandsTransmit :
    ready.cfg.defaultTables ∧ ready.eng.usable = true ∧ ready.eng.inflight = none ∧
    (0 ≤ (0 : Value).toInt ∧ (255 : Value).toInt ≤ 255) ∧ (0 ≤ (0 : Value).toInt ∧ (63 : Value).toInt ≤ 63) :=
  ⟨profileP0_tables, by decide⟩
theorem witness_PlainSendFiresAtOnce :
    (busy 1).cfg.wf = true ∧ (busy 1).eng.usable = true ∧
    CommandDesc.construct profileP0 ⟨.recallMaxLevel, none, none⟩ = .ok ⟨.recallMaxLevel, some .broadcast, none⟩ :=
  by decide
theorem witness_CorrelatedRequestsAreTaken :
    ready.eng.usable = true ∧ ready.eng.inflight = none ∧
    CommandDesc.construct profileP0 ⟨.randomize, none, none⟩ = .ok ⟨.randomize, none, none⟩ ∧
    (Instr.randomize none none).presented = .command ⟨.randomize, none, none⟩ :=
  by decide
theorem witness_FirmwareResetIsForbidden :
    ready.eng.usable = true ∧ ready.eng.idle = true ∧ ∃ t, exec (.firmwareReset none) ready = .next t :=
  ⟨by decide, by decide, _, rfl⟩
theorem witness_BusySlotRefusesCorrelated :
    (busy 2).eng.usable = true ∧ (∃ f, (busy 2).eng.inflight = some f) ∧ (Instr.firmwareReset none).correlated = true ∧
    (Instr.firmwareReset none).constructs profileP0 ∧ (Instr.off none none).correlated = true ∧ (Instr.off none none).constructs profileP0 :=
  ⟨by decide, ⟨_, rfl⟩, by decide, (fun d h => by cases h), by decide, (fun d h => by cases h; exact ⟨_, rfl⟩)⟩
theorem witness_InvalidOperandsRaise :
    (Instr.directArcPower none (some 255)).operands = some ⟨.directArcPower, none, some 255⟩ ∧
    CommandDesc.construct profileP0 ⟨.directArcPower, none, some 255⟩ = .error (.validationError (.valueOutOfRange 0 254)) :=
  by decide
theorem witness_UnusableSessionAnswersNotOpen :
    State.reset.eng.usable = false ∧ waiting.eng.usable = false ∧ dead.eng.usable = false ∧
    (Instr.firmwareReset none).sends = true ∧ (Instr.firmwareReset none).constructs profileP0 :=
  ⟨by decide, by decide, by decide, by decide, fun d h => by cases h⟩
theorem witness_DistinctFramesCountEchoes :
    (Instr.distinctResponse .noForward).distinctFrame (.distinctResponse .noForward) ∧
    (Instr.distinctNoResponse .noForward).distinctFrame (.distinctNoResponse .noForward) ∧
    ready.eng.inflight = none ∧ (∃ f, (busy 2).eng.inflight = some f ∧ f.remainingEchoes = 2) ∧
    (∃ f, (busy 1).eng.inflight = some f ∧ f.remainingEchoes = 1 ∧ (busy 1).eng.seq = none) :=
  ⟨.inl ⟨_, rfl, rfl⟩, .inr ⟨_, rfl, rfl⟩, rfl, ⟨_, rfl, rfl⟩, ⟨_, rfl, rfl, rfl⟩⟩
theorem witness_SequencerAdvancesOnTheEcho :
    (Instr.distinctResponse .noForward).distinctFrame (.distinctResponse .noForward) ∧
    (Instr.distinctNoResponse .noForward).distinctFrame (.distinctNoResponse .noForward) ∧
    (∀ p rs, (searching p rs).cfg.wf = true ∧ (searching p rs).eng.usable = true ∧ ∃ f q, (searching p rs).eng.inflight = some f ∧
      f.remainingEchoes = 1 ∧ (searching p rs).eng.seq = some q ∧ q.phase = p) :=
  ⟨.inl ⟨_, rfl, rfl⟩, .inr ⟨_, rfl, rfl⟩, fun _ _ => ⟨profileP0_wf, rfl, _, _, rfl, rfl, rfl, rfl⟩⟩
theorem witness_DoubleSendWaitsForTwoEchoes :
    ready.eng.usable = true ∧ ready.eng.idle = true ∧
    CommandDesc.construct profileP0 ⟨.initialise, none, some 0⟩ = .ok ⟨.initialise, none, some 0⟩ ∧
    (Instr.distinctResponse .noForward).distinctFrame (.distinctResponse .noForward) ∧
    (Instr.distinctNoResponse .noForward).distinctFrame (.distinctNoResponse .noForward) :=
  ⟨by decide, by decide, by decide, .inl ⟨_, rfl, rfl⟩, .inr ⟨_, rfl, rfl⟩⟩
theorem witness_TransportOpenByBootMethod :
    (dead.eng.session = .destroyed ∧ ready.eng.transportOpen = true) ∧
    (State.reset.eng.session ≠ .destroyed ∧ State.reset.eng.transportOpen = false ∧ State.reset.cfg.bootMethod = .noBoot ∧
      State.reset.cfg.emitOpenWithoutBoot = true ∧ State.reset.eng.openEmitted = false) ∧
    (State.construct { profileP0 with emitOpenWithoutBoot := false }).cfg.emitOpenWithoutBoot = false ∧
    (State.construct { profileP0 with bootMethod := .waitOnly }).cfg.bootMethod = .waitOnly ∧
    (State.construct { profileP0 with bootMethod := .setDTR }).cfg.bootMethod = .setDTR :=
  by decide
theorem waiting_inv : waiting.Inv where
  echoes := fun _ h => by cases h
  destroyed := fun h => by cases h
  timer := fun _ => ⟨rfl, rfl⟩
  announced := fun h => by cases h
  sequencer := fun _ h => by cases h
  slotUsable := fun _ h => by cases h
  booting := fun _ => ⟨by decide, rfl⟩
theorem dead_inv : dead.Inv where
  echoes := fun _ h => by cases h
  destroyed := fun _ => ⟨rfl, rfl, rfl⟩
  timer := fun h => by cases h
  announced := fun h => by cases h
  sequencer := fun _ h => by cases h
  slotUsable := fun _ h => by cases h
  booting := fun h => by cases h
theorem searching_inv : (searching .m [.distinctNoResponse .noForward]).Inv where
  echoes := fun _ h => by cases h; exact ⟨.inl rfl, rfl⟩
  destroyed := fun h => by cases h
  timer := fun h => by cases h
  announced := fun _ h => absurd rfl h
  sequencer := fun _ h => by cases h; exact ⟨rfl, 2, rfl⟩
  slotUsable := fun _ _ => by decide
  booting := fun h => by cases h
theorem searching_fire_once : (searching .m [.distinctNoResponse .noForward]).FireOnce where
  once := by decide
  made := by decide
  slot := fun _ h => by cases h; decide
  sequence := fun _ h => by cases h; decide
  apart := fun _ _ h h' => by cases h; cases h'; decide
theorem witness_TimerExpiryOpensTheSession :
    waiting.eng.bootTimerArmed = true ∧ waiting.eng.openEmitted = false ∧ waiting.Inv ∧ ready.eng.bootTimerArmed = false ∧
    ({ waiting with eng := { waiting.eng with openEmitted := true } } : State).eng.openEmitted = true :=
  ⟨rfl, rfl, waiting_inv, rfl, rfl⟩
theorem witness_TransportCloseDestroys :
    dead.eng.session = .destroyed ∧ (waiting.eng.session ≠ .destroyed ∧ waiting.eng.inflight = none) ∧
    ((∃ f, (busy 1).eng.inflight = some f) ∧ (busy 1).eng.seq = none) ∧
    ∃ f q, (searching .l []).eng.inflight = some f ∧ (searching .l []).eng.seq = some q :=
  ⟨rfl, ⟨by decide, rfl⟩, ⟨⟨_, rfl⟩, rfl⟩, _, _, rfl, rfl⟩
theorem witness_ResetFreesTheSlot :
    ready.eng.inflight = none ∧ ((∃ f, (busy 1).eng.inflight = some f) ∧ (busy 1).eng.seq = none) ∧
    ∃ f q, (searching .h []).eng.inflight = some f ∧ (searching .h []).eng.seq = some q :=
  ⟨rfl, ⟨⟨_, rfl⟩, rfl⟩, _, _, rfl, rfl⟩
theorem witness_SetSearchAddressStarts :
    (∃ q, (searching .h []).eng.seq = some q) ∧
    (ready.eng.seq = none ∧ ready.cfg.wf = true ∧ ready.eng.usable = true ∧ ready.eng.inflight = none) ∧
    ((busy 1).eng.seq = none ∧ (busy 1).eng.usable = true ∧ ∃ f, (busy 1).eng.inflight = some f) ∧
    (waiting.eng.seq = none ∧ waiting.eng.usable = false) :=
  ⟨⟨_, rfl⟩, ⟨rfl, profileP0_wf, by decide, rfl⟩, ⟨rfl, by decide, _, rfl⟩, rfl, by decide⟩
theorem witness_SearchAddressGoesOutInThreeBytes :
    ready.cfg.wf = true ∧ ready.eng.usable = true ∧ ready.eng.idle = true ∧
    (Instr.distinctResponse .noForward).distinctFrame (.distinctResponse .noForward) ∧
    (Instr.distinctNoResponse .noForward).distinctFrame (.distinctNoResponse .noForward) :=
  ⟨profileP0_wf, by decide, by decide, .inl ⟨_, rfl, rfl⟩, .inr ⟨_, rfl, rfl⟩⟩
theorem witness_ConstructionState :
    profileP0.bootMethod = .noBoot ∧ { profileP0 with bootMethod := .waitOnly }.bootMethod ≠ .noBoot :=
  by decide
theorem witness_EveryStepKeepsTheEngineInvariant :
    (searching .m [.distinctNoResponse .noForward]).Inv ∧ dead.Inv ∧ dead.eng.session = .destroyed ∧
    ∃ t, step (searching .m [.distinctNoResponse .noForward]) = .next t :=
  ⟨searching_inv, dead_inv, rfl, _, rfl⟩
theorem witness_EveryCompletionFiresAtMostOnce :
    (searching .m [.distinctNoResponse .noForward]).FireOnce ∧ ∃ t, step (searching .m [.distinctNoResponse .noForward]) = .next t :=
  ⟨searching_fire_once, _, rfl⟩
theorem witness_EveryTransmissionIsWellFramed :
    ({ ready with outputs := [.tx [0x01, 0x30, 0x43, 0x30, 0x30, 0x46, 0x33, 0x17]] } : State).FramesSound ∧ ∃ t, step ready = .next t :=
  ⟨by unfold State.FramesSound; decide, _, rfl⟩
theorem witness_SessionEventsAtMostOnce :
    waiting.Inv ∧ waiting.MarksSound ∧ ∃ t, step { waiting with inputs := [.timerExpiry] } = .next t :=
  ⟨waiting_inv, by unfold State.MarksSound; decide, _, rfl⟩
theorem witness_TransmitsOnlyWhenUsable :
    (∃ t, step { ready with inputs := [.present (.word 0xFF00)] } = .next t ∧ transmitted t.outputs ≠ []) ∧
    (∃ t, step { searching .h [] with inputs := [.present (.chunk [0x01, 0x30, 0x45, 0x31, 0x30, 0x42, 0x31, 0x31, 0x32, 0x31, 0x45, 0x17])] } = .next t ∧ transmitted t.outputs ≠ []) ∧
    (∃ t, step { ready with inputs := [.setSearchAddress 1] } = .next t ∧ transmitted t.outputs ≠ []) :=
  ⟨⟨_, rfl, by decide⟩, ⟨_, rfl, by decide⟩, ⟨_, rfl, by decide⟩⟩
theorem witness_DestroyedIsAbsorbing :
    dead.Inv ∧ dead.eng.session = .destroyed ∧ ∃ t, step { dead with inputs := [.transportOpen] } = .next t :=
  ⟨dead_inv, rfl, _, rfl⟩
theorem witness_SessionTransitions :
    waiting.Inv ∧ ∃ t, step { waiting with inputs := [.timerExpiry] } = .next t ∧ t.eng.session = .running :=
  ⟨waiting_inv, _, rfl, by decide⟩

end Sys2Proof.Tests
end

section
/-! What the instructions and the shared operations leave unchanged: everything but the slot, the sequencer, the outputs added and
the completions made. -/

namespace Sys2Proof.Machine

/-- `t` differs from `s` at most in the slot, the sequencer, outputs added at the end and completions newly made. -/
structure State.Frame (s t : State) : Prop where
  cfg : t.cfg = s.cfg
  inputs : t.inputs = s.inputs
  session : t.eng.session = s.eng.session
  transportOpen : t.eng.transportOpen = s.eng.transportOpen
  bootTimerArmed : t.eng.bootTimerArmed = s.eng.bootTimerArmed
  openEmitted : t.eng.openEmitted = s.eng.openEmitted
  dtrAsserted : t.eng.dtrAsserted = s.eng.dtrAsserted
  completions : s.nextCompletion ≤ t.nextCompletion
  outputs : s.outputs <+: t.outputs

/-! ## The frame of each update -/

theorem State.Frame.refl (s : State) : s.Frame s :=
  ⟨rfl, rfl, rfl, rfl, rfl, rfl, rfl, Nat.le_refl _, List.prefix_rfl⟩

theorem State.Frame.trans {s t u : State} (h : s.Frame t) (k : t.Frame u) : s.Frame u where
  cfg := k.cfg.trans h.cfg
  inputs := k.inputs.trans h.inputs
  session := k.session.trans h.session
  transportOpen := k.transportOpen.trans h.transportOpen
  bootTimerArmed := k.bootTimerArmed.trans h.bootTimerArmed
  openEmitted := k.openEmitted.trans h.openEmitted
  dtrAsserted := k.dtrAsserted.trans h.dtrAsserted
  completions := h.completions.trans k.completions
  outputs := h.outputs.trans k.outputs

theorem State.Frame.emit {s t : State} (h : s.Frame t) (o : Output) : s.Frame (t.emit o) :=
  h.trans ⟨rfl, rfl, rfl, rfl, rfl, rfl, rfl, Nat.le_refl _, List.prefix_append _ _⟩

theorem State.Frame.newCompletion {s t : State} (h : s.Frame t) : s.Frame t.newCompletion :=
  h.trans ⟨rfl, rfl, rfl, rfl, rfl, rfl, rfl, Nat.le_succ _, List.prefix_rfl⟩

theorem State.Frame.setInflight {s t : State} (h : s.Frame t) (f : Option InFlight) : s.Frame (t.setInflight f) :=
  h.trans ⟨rfl, rfl, rfl, rfl, rfl, rfl, rfl, Nat.le_refl _, List.prefix_rfl⟩

theorem State.Frame.setSeq {s t : State} (h : s.Frame t) (q : Option Sequencer) : s.Frame (t.setSeq q) :=
  h.trans ⟨rfl, rfl, rfl, rfl, rfl, rfl, rfl, Nat.le_refl _, List.prefix_rfl⟩

theorem State.Frame.register {s t : State} (h : s.Frame t) (req : FoxtronRequest) : s.Frame (register req t) :=
  h.newCompletion.setInflight _

/-- Neither the slot nor the sequencer bears on `usable` (10_state R34). -/
theorem State.Frame.usable {s t : State} (h : s.Frame t) : t.eng.usable = s.eng.usable := by
  simp [Engine.usable, h.session, h.transportOpen]

/-! ## The sequencer's moves, by whether it is active -/

theorem seqAdvance_active {s : State} {q : Sequencer} (h : s.eng.seq = some q) (p : SeqPhase) (r : FoxtronResponse) :
    seqAdvance p r s = s.setSeq (some { q with phase := p, results := q.results ++ [r] }) := by
  simp [seqAdvance, h]

theorem seqAdvance_idle {s : State} (h : s.eng.seq = none) (p : SeqPhase) (r : FoxtronResponse) : seqAdvance p r s = s := by
  simp [seqAdvance, h]

theorem seqFinish_active {s : State} {q : Sequencer} (h : s.eng.seq = some q) :
    seqFinish s = (s.setSeq none).resolve q.completion (.responses q.results) := by
  simp [seqFinish, h]

theorem seqFinish_idle {s : State} (h : s.eng.seq = none) : seqFinish s = s := by
  simp [seqFinish, h]

theorem seqIssue_idle {s : State} (next : FoxtronResponse → State → State) (h : s.eng.seq = none) : seqIssue next s = s := by
  simp [seqIssue, h]

/-- A response goes to the continuation of the phase the sequencer is in (48 R346). -/
theorem seqContinue_cases (r : FoxtronResponse) (s : State) :
    (s.eng.seq = none ∧ seqContinue r s = s) ∨
    (∃ q, s.eng.seq = some q ∧ q.phase = .h ∧ seqContinue r s = seqContinueH r s) ∨
    (∃ q, s.eng.seq = some q ∧ q.phase = .m ∧ seqContinue r s = seqContinueM r s) ∨
    (∃ q, s.eng.seq = some q ∧ q.phase = .l ∧ seqContinue r s = seqContinueL r s) := by
  cases hq : s.eng.seq with
  | none => exact .inl ⟨rfl, by simp [seqContinue, hq]⟩
  | some q =>
    refine .inr ?_
    cases hp : q.phase with
    | h => exact .inl ⟨q, rfl, hp, by simp [seqContinue, hq, hp]⟩
    | m => exact .inr (.inl ⟨q, rfl, hp, by simp [seqContinue, hq, hp]⟩)
    | l => exact .inr (.inr ⟨q, rfl, hp, by simp [seqContinue, hq, hp]⟩)

theorem setSearchAddress_active {s : State} {q : Sequencer} (h : s.eng.seq = some q) (v : BitVec 24) :
    setSearchAddress v s = s.raiseError .requestAlreadyInFlight := by
  simp [setSearchAddress, h]

/-- The state in which `setSearchAddress` has started the sequencer and nothing is issued yet (48 R345). -/
def State.startSearch (v : BitVec 24) (s : State) : State := s.newCompletion.setSeq (some ⟨.h, v, [], s.nextCompletion⟩)

theorem setSearchAddress_idle {s : State} (h : s.eng.seq = none) (v : BitVec 24) :
    setSearchAddress v s = (seqIssue seqContinueH (s.startSearch v)).giveBack s.nextCompletion := by
  simp [setSearchAddress, h, State.startSearch]

/-! ## The frame of each operation -/

theorem callSendCmd_frame (req : FoxtronRequest) (s : State) : s.Frame (callSendCmd req s) := by
  have same := State.Frame.refl s
  rcases callSendCmd_cases req s with
    ⟨-, h⟩ | ⟨-, -, -, h⟩ | ⟨-, -, -, p, -, h⟩ | ⟨-, -, -, h⟩ | ⟨-, -, p, -, h⟩ <;> rw [h]
  · exact (same.newCompletion.emit _).emit _
  · exact same.emit _
  · exact ((same.register req).emit _).emit _
  · exact (same.register req).emit _
  · exact ((same.emit _).newCompletion.emit _).emit _

theorem seqAdvance_frame (p : SeqPhase) (r : FoxtronResponse) (s : State) : s.Frame (seqAdvance p r s) := by
  cases hq : s.eng.seq with
  | none => rw [seqAdvance_idle hq]; exact .refl s
  | some q => rw [seqAdvance_active hq]; exact (State.Frame.refl s).setSeq _

theorem seqFinish_frame (s : State) : s.Frame (seqFinish s) := by
  cases hq : s.eng.seq with
  | none => rw [seqFinish_idle hq]; exact .refl s
  | some q => rw [seqFinish_active hq]; exact ((State.Frame.refl s).setSeq _).emit _

/-- What an issued command leaves unchanged, given that the continuation leaves it unchanged. -/
theorem seqIssue_frame {next : FoxtronResponse → State → State} (hnext : ∀ r (u : State), u.Frame (next r u)) (s : State) :
    s.Frame (seqIssue next s) := by
  have same := State.Frame.refl s
  cases hq : s.eng.seq with
  | none => rw [seqIssue_idle next hq]; exact same
  | some q =>
    cases hu : s.eng.usable with
    | false => rw [seqIssue_unusable next hu hq]; exact (same.newCompletion.emit _).trans (hnext _ _)
    | true =>
      cases hf : s.eng.inflight with
      | none => rw [seqIssue_taken next hu hf hq]; exact (same.register _).emit _
      | some f => rw [seqIssue_busy next hu hf hq]; exact (same.setSeq none).emit _

theorem seqContinueL_frame (r : FoxtronResponse) (s : State) : s.Frame (seqContinueL r s) :=
  (seqAdvance_frame .l r s).trans (seqFinish_frame _)

theorem seqContinueM_frame (r : FoxtronResponse) (s : State) : s.Frame (seqContinueM r s) :=
  (seqAdvance_frame .l r s).trans (seqIssue_frame seqContinueL_frame _)

theorem seqContinueH_frame (r : FoxtronResponse) (s : State) : s.Frame (seqContinueH r s) :=
  (seqAdvance_frame .m r s).trans (seqIssue_frame seqContinueM_frame _)

theorem seqContinue_frame (r : FoxtronResponse) (s : State) : s.Frame (seqContinue r s) := by
  rcases seqContinue_cases r s with ⟨-, h⟩ | ⟨q, -, -, h⟩ | ⟨q, -, -, h⟩ | ⟨q, -, -, h⟩ <;> rw [h]
  · exact .refl s
  · exact seqContinueH_frame r s
  · exact seqContinueM_frame r s
  · exact seqContinueL_frame r s

theorem startSearch_frame (v : BitVec 24) (s : State) : s.Frame (s.startSearch v) :=
  (State.Frame.refl s).newCompletion.setSeq _

theorem setSearchAddress_frame (v : BitVec 24) (s : State) : s.Frame (setSearchAddress v s) := by
  cases hq : s.eng.seq with
  | none =>
    rw [setSearchAddress_idle hq]
    exact ((startSearch_frame v s).trans (seqIssue_frame seqContinueH_frame _)).emit _
  | some q => rw [setSearchAddress_active hq]; exact (State.Frame.refl s).emit _

theorem completed_frame (r : FoxtronResponse) (f : InFlight) (s : State) : s.Frame (completed r f s) :=
  ((State.Frame.refl s).setInflight none).emit _

theorem distinctRoute_frame (r : FoxtronResponse) (s : State) : s.Frame (distinctRoute r s) := by
  rcases distinctRoute_cases r s with ⟨-, h⟩ | ⟨f, -, -, h⟩ | ⟨f, -, -, -, h⟩ | ⟨f, q, -, -, -, h⟩ <;> rw [h]
  · exact .refl s
  · exact (State.Frame.refl s).setInflight _
  · exact completed_frame r f s
  · exact (completed_frame r f s).trans (seqContinue_frame r _)

theorem cancelInflight_frame (s : State) : s.Frame (cancelInflight s) := by
  have freed (f : InFlight) := ((State.Frame.refl s).setInflight none).emit (.reject f.completion .cancelled)
  rcases cancelInflight_cases s with ⟨-, h⟩ | ⟨f, -, -, h⟩ | ⟨f, q, -, -, h⟩ <;> rw [h]
  · exact .refl s
  · exact freed f
  · exact ((freed f).setSeq none).emit _

theorem ExecShape.frame {i : Instr} {s t : State} (h : ExecShape i s t) : s.Frame t := by
  cases h with
  | one o h ht => rw [ht]; exact (State.Frame.refl s).emit o
  | two o o' h h' ht => rw [ht]; exact ((State.Frame.refl s).emit o).emit o'
  | sent req hi ht => rw [ht]; exact callSendCmd_frame req s
  | routed r hi ht => rw [ht]; exact distinctRoute_frame r s

/-! ## Every instruction -/

/-- No instruction stops the machine (60 R380). -/
theorem exec_answers (i : Instr) (s : State) : ∃ t, exec i s = .next t := by
  rcases exec_cases i s with ⟨-, e, -, -, h⟩ | ⟨req, -, -, h⟩ | ⟨ev, r, -, -, -, h⟩ | ⟨r, -, h⟩ <;>
    exact ⟨_, h⟩

theorem exec_frame {i : Instr} {s t : State} (h : exec i s = .next t) : s.Frame t := (exec_shape h).frame

/-- Settles O30: every meaning has one of four shapes, and each shape keeps the frame. -/
theorem instructionsCompleteAndFrame : Obligations.InstructionsCompleteAndFrame := by
  intro i s
  obtain ⟨t, ht⟩ := exec_answers i s
  have h := exec_frame ht
  obtain ⟨os, hos⟩ := h.outputs
  exact ⟨t, ht, h.cfg, h.inputs, h.session, h.transportOpen, h.bootTimerArmed, h.openEmitted, h.dtrAsserted, h.completions,
    os, hos.symm⟩

end Sys2Proof.Machine
end

section
/-! Where a step stops: the rejections that are refusals, and what is rejected so. -/

namespace Sys2Proof.Machine

/-- The refusal a rejection comes to at the fetch; a raised error is delivered and is none. -/
def refusalOf : Reject → Option Refusal
  | .raised _ => none
  | .codeNotInEnumeration => some .codeNotInEnumeration
  | .requestFieldAbsent => some .requestFieldAbsent

/-- A result that the fetch turns away with this refusal. -/
def RefusedAs {α : Type} (r : Refusal) (x : Except Reject α) : Prop := ∃ j, x = .error j ∧ refusalOf j = some r

@[simp] theorem refusedAs_ok {α : Type} (r : Refusal) (a : α) : ¬ RefusedAs r (.ok a : Except Reject α) := by simp [RefusedAs]

@[simp] theorem refusedAs_raised {α : Type} (r : Refusal) (e : Error) : ¬ RefusedAs r (.error (.raised e) : Except Reject α) := by
  simp [RefusedAs, refusalOf]

@[simp] theorem refusedAs_code {α : Type} (r : Refusal) :
    RefusedAs r (.error .codeNotInEnumeration : Except Reject α) ↔ r = .codeNotInEnumeration := by
  simp [RefusedAs, refusalOf, eq_comm]

@[simp] theorem refusedAs_field {α : Type} (r : Refusal) :
    RefusedAs r (.error .requestFieldAbsent : Except Reject α) ↔ r = .requestFieldAbsent := by
  simp [RefusedAs, refusalOf, eq_comm]

/-! ## What the decoder and the pure operations turn away -/

theorem ofRequest_refused_iff (r : Refusal) (q : RequestRecord) :
    RefusedAs r (Instr.ofRequest q) ↔ r = .requestFieldAbsent ∧ lacksField q := by
  obtain ⟨ty, c, p, ds, sq, i, d⟩ := q
  cases ty with
  | send | distinctSend | continuousSend => cases c <;> simp [Instr.ofRequest, lacksField]
  | confQuery => cases i <;> simp [Instr.ofRequest, lacksField]
  | confChange => cases i <;> cases d <;> simp [Instr.ofRequest, lacksField]
  | sequenceEnd | firmwareReset => simp [Instr.ofRequest, lacksField]

theorem ofDescriptor_refused_iff (r : Refusal) (cfg : Config) (k : BitVec 10) (sh g v : Option Value) :
    RefusedAs r (Instr.ofDescriptor cfg k sh g v) ↔ r = .codeNotInEnumeration ∧ cfg.codeOf k = none := by
  cases hk : cfg.codeOf k with
  | none => simp [Instr.ofDescriptor, hk]
  | some c => cases ha : addressOf sh g <;> simp [Instr.ofDescriptor, hk, ha]

/-- The decoder turns away a descriptor without a code of the enumeration and a request record without a needed field. -/
theorem decode_refused_iff (r : Refusal) (cfg : Config) (e : Encoded) :
    RefusedAs r (decode cfg e) ↔
      (r = .codeNotInEnumeration ∧ ∃ k sh g v, e = .descriptor k sh g v ∧ cfg.codeOf k = none) ∨
      (r = .requestFieldAbsent ∧ ∃ q, e = .request q ∧ lacksField q) := by
  cases e with
  | word w => cases hd : fromBytecode cfg w <;> simp [decode, hd]
  | descriptor k sh g v => simpa [decode] using ofDescriptor_refused_iff r cfg k sh g v
  | request q => simpa [decode] using ofRequest_refused_iff r q
  | chunk f => cases hd : frameDecode cfg f <;> simp [decode, hd]

@[simp] theorem pureResult_not_refused {α : Type} (r : Refusal) (k : α → CodecResult) (x : Except Error α) :
    ¬ RefusedAs r (pureResult k x) := by
  cases x <;> simp [pureResult]

theorem requestOf_refused_iff (r : Refusal) (cfg : Config) (q : RequestRecord) :
    RefusedAs r (requestOf cfg q) ↔ r = .requestFieldAbsent ∧ lacksField q := by
  obtain ⟨ty, c, p, ds, sq, i, d⟩ := q
  cases ty with
  | send | distinctSend | continuousSend =>
    cases c with
    | none => simp [requestOf, lacksField]
    | some c => cases hc : c.construct cfg <;> simp [requestOf, lacksField, hc]
  | confQuery => cases i <;> simp [requestOf, lacksField]
  | confChange => cases i <;> cases d <;> simp [requestOf, lacksField]
  | sequenceEnd | firmwareReset => simp [requestOf, lacksField]

theorem encodeRecord_refused_iff (r : Refusal) (cfg : Config) (q : RequestRecord) :
    RefusedAs r (encodeRecord cfg q) ↔ r = .requestFieldAbsent ∧ lacksField q := by
  rw [← requestOf_refused_iff r cfg q]
  cases hq : requestOf cfg q with
  | error j => simp [encodeRecord, hq, RefusedAs]
  | ok req => cases hf : frameEncode cfg req <;> simp [encodeRecord, hq, hf]

/-- The one pure operation that turns anything away is `frameEncode`, of a record without a needed field. -/
theorem run_refused_iff (r : Refusal) (cfg : Config) (op : CodecOp) :
    RefusedAs r (op.run cfg) ↔ r = .requestFieldAbsent ∧ ∃ q, op = .frameEncode q ∧ lacksField q := by
  cases op with
  | frameEncode q =>
    have h : RefusedAs r ((CodecOp.frameEncode q).run cfg) ↔ RefusedAs r (encodeRecord cfg q) := by
      cases hq : encodeRecord cfg q <;> simp [CodecOp.run, hq, RefusedAs]
    simpa [encodeRecord_refused_iff] using h
  | _ => simp [CodecOp.run]

/-! ## Where the step is refused -/

theorem fetchInstr_refuse_iff (r : Refusal) (e : Encoded) (s : State) :
    fetchInstr e s = .refuse r ↔ RefusedAs r (decode s.cfg e) := by
  cases hd : decode s.cfg e with
  | ok i => simp [fetchInstr, hd]
  | error j => cases j <;> simp [fetchInstr, hd, eq_comm]

theorem fetchCodec_refuse_iff (r : Refusal) (op : CodecOp) (s : State) :
    fetchCodec op s = .refuse r ↔ RefusedAs r (op.run s.cfg) := by
  cases hd : op.run s.cfg with
  | ok i => simp [fetchCodec, hd]
  | error j => cases j <;> simp [fetchCodec, hd, eq_comm]

/-- The inputs that the fetch turns away, with the name of the refusal. -/
theorem fetchInput_refuse_iff (r : Refusal) (x : Input) (s : State) :
    fetchInput x s = .refuse r ↔
      (r = .codeNotInEnumeration ∧ ∃ k sh g v, x = .present (.descriptor k sh g v) ∧ s.cfg.codeOf k = none) ∨
      (r = .requestFieldAbsent ∧ ∃ q, (x = .present (.request q) ∨ x = .codec (.frameEncode q)) ∧ lacksField q) := by
  cases x with
  | present e => simp [fetchInput, fetchInstr_refuse_iff, decode_refused_iff]
  | codec op => simp [fetchInput, fetchCodec_refuse_iff, run_refused_iff]
  | _ => simp [fetchInput]

/-- A step is refused exactly where its fetch is: the instructions themselves stop nowhere. -/
theorem step_refused_iff_fetch (r : Refusal) (s : State) : step s = .refused r ↔ fetch s = .refuse r := by
  cases h : fetch s with
  | run i u =>
    obtain ⟨t, ht⟩ := exec_answers i u
    simp [step, h, ht]
  | _ => simp [step, h]

/-- Everything a step is refused for, with the name of the refusal. -/
theorem step_refused_iff (r : Refusal) (s : State) :
    step s = .refused r ↔
      (r = .codeNotInEnumeration ∧
        ∃ k sh g v rest, s.inputs = .present (.descriptor k sh g v) :: rest ∧ s.cfg.codeOf k = none) ∨
      (r = .requestFieldAbsent ∧ ∃ q rest,
        (s.inputs = .present (.request q) :: rest ∨ s.inputs = .codec (.frameEncode q) :: rest) ∧ lacksField q) := by
  rw [step_refused_iff_fetch]
  cases hi : s.inputs with
  | nil => simp [fetch, hi]
  | cons x rest => simp [fetch, hi, fetchInput_refuse_iff, exists_or]

/-- Settles O28: there is no fault, and a refusal is one the fetch gives. -/
theorem stepStopsOnlyOnTheUnpresentable : Obligations.StepStopsOnlyOnTheUnpresentable := by
  intro s
  refine ⟨(nomatch ·), ?_, ?_, fun r h => ?_⟩
  · simp [step_refused_iff]
  · simp [step_refused_iff]
  · rcases (step_refused_iff r s).1 h with ⟨hr, -⟩ | ⟨hr, -⟩
    · exact .inl hr
    · exact .inr hr

end Sys2Proof.Machine
end

section
/-! The engine invariant (10_state R37): what keeps it, operation by operation, and that every step does. -/

namespace Sys2Proof.Machine

/-! ## Rules of the invariant -/

theorem Engine.usable_iff (e : Engine) : e.usable = true ↔ e.transportOpen = true ∧ e.session = .running := by
  simp [Engine.usable]

/-- The invariant reads the configuration and the engine state only, so a strobe, a new completion and the taking of an input
keep it. -/
theorem State.Inv.emit {s : State} (h : s.Inv) (o : Output) : (s.emit o).Inv :=
  ⟨h.echoes, h.destroyed, h.timer, h.announced, h.sequencer, h.slotUsable, h.booting⟩

theorem State.Inv.newCompletion {s : State} (h : s.Inv) : s.newCompletion.Inv :=
  ⟨h.echoes, h.destroyed, h.timer, h.announced, h.sequencer, h.slotUsable, h.booting⟩

theorem State.Inv.setInputs {s : State} (h : s.Inv) (xs : List Input) : (s.setInputs xs).Inv :=
  ⟨h.echoes, h.destroyed, h.timer, h.announced, h.sequencer, h.slotUsable, h.booting⟩

/-- An unusable engine has a free slot. -/
theorem State.Inv.slot_free {s : State} (h : s.Inv) (hu : s.eng.usable = false) : s.eng.inflight = none := by
  cases hf : s.eng.inflight with
  | none => rfl
  | some f => simp [h.slotUsable f hf] at hu

/-- With a free slot the sequencer is idle. -/
theorem State.Inv.seq_idle {s : State} (h : s.Inv) (hf : s.eng.inflight = none) : s.eng.seq = none := by
  cases hq : s.eng.seq with
  | none => rfl
  | some q =>
    obtain ⟨-, c, hc⟩ := h.sequencer q hq
    simp [hf] at hc

/-- With nothing in flight and no sequence running, the invariant is what it says of the session. -/
theorem State.Inv.of_idle {s : State} (hf : s.eng.inflight = none) (hq : s.eng.seq = none)
    (destroyed : s.eng.session = .destroyed → s.eng.transportOpen = false ∧ s.eng.bootTimerArmed = false)
    (timer : s.eng.bootTimerArmed = true → s.eng.session = .waitingForBoot ∧ s.eng.transportOpen = true)
    (announced : s.eng.session = .running → s.cfg.bootMethod ≠ .noBoot → s.eng.openEmitted = true ∧ s.eng.transportOpen = true)
    (booting : s.eng.session = .waitingForBoot → s.cfg.bootMethod ≠ .noBoot ∧ s.eng.openEmitted = false) : s.Inv where
  echoes f h := by simp [hf] at h
  destroyed h := ⟨(destroyed h).1, hf, (destroyed h).2⟩
  timer := timer
  announced := announced
  sequencer q h := by simp [hq] at h
  slotUsable f h := by simp [hf] at h
  booting := booting

/-- What keeps the frame keeps the invariant, if the slot and the sequencer it leaves are sound. -/
theorem State.Inv.of_frame {s t : State} (h : s.Inv) (hft : s.Frame t)
    (slot : ∀ f, t.eng.inflight = some f →
      (f.remainingEchoes = 1 ∨ f.remainingEchoes = 2) ∧ f.request.type.correlated = true ∧ s.eng.usable = true)
    (sequencer : ∀ q, t.eng.seq = some q → q.results.length = q.phase.gathered ∧
      ∃ c, t.eng.inflight = some ⟨bareRequest (searchCommand q.phase q.value), 1, c⟩) : t.Inv where
  echoes f hf := by
    obtain ⟨hn, hc, -⟩ := slot f hf
    exact ⟨hn, hc⟩
  destroyed hd := by
    have hs : s.eng.session = .destroyed := hft.session.symm.trans hd
    obtain ⟨ho, -, ht⟩ := h.destroyed hs
    refine ⟨hft.transportOpen.trans ho, ?_, hft.bootTimerArmed.trans ht⟩
    cases hf : t.eng.inflight with
    | none => rfl
    | some f =>
      obtain ⟨-, -, hu⟩ := slot f hf
      simp [Engine.usable_iff, hs] at hu
  timer := by simpa [hft.bootTimerArmed, hft.session, hft.transportOpen] using h.timer
  announced := by simpa [hft.session, hft.cfg, hft.openEmitted, hft.transportOpen] using h.announced
  sequencer := sequencer
  slotUsable f hf := by
    obtain ⟨-, -, hu⟩ := slot f hf
    exact hft.usable.trans hu
  booting := by simpa [hft.session, hft.cfg, hft.openEmitted] using h.booting

/-- The usual ending: the sequencer is idle and nothing is in flight that was not before. -/
theorem State.Inv.of_frame_idle {s t : State} (h : s.Inv) (hft : s.Frame t)
    (slot : ∀ f, t.eng.inflight = some f → s.eng.inflight = some f) (hq : t.eng.seq = none) : t.Inv := by
  refine h.of_frame hft (fun f hf => ?_) (fun q hq' => by simp [hq] at hq')
  obtain ⟨hn, hc⟩ := h.echoes f (slot f hf)
  exact ⟨hn, hc, h.slotUsable f (slot f hf)⟩

/-! ## `sendCmd` -/

theorem register_inflight (req : FoxtronRequest) (s : State) :
    (register req s).eng.inflight = some ⟨req, if req.doubled then 2 else 1, s.nextCompletion⟩ := rfl

theorem register_seq (req : FoxtronRequest) (s : State) : (register req s).eng.seq = s.eng.seq := rfl

/-- A correlated request may take the free slot of a usable engine. -/
theorem State.Inv.register {s : State} (h : s.Inv) {req : FoxtronRequest} (hu : s.eng.usable = true)
    (hc : req.type.correlated = true) (hf : s.eng.inflight = none) : (register req s).Inv := by
  refine h.of_frame ((State.Frame.refl s).register req) (fun f hr => ?_) (fun q hq => ?_)
  · rw [register_inflight] at hr
    cases hr
    refine ⟨?_, hc, hu⟩
    cases req.doubled
    · exact .inl rfl
    · exact .inr rfl
  · rw [register_seq, h.seq_idle hf] at hq
    cases hq

theorem callSendCmd_inv {s : State} (h : s.Inv) (req : FoxtronRequest) : (callSendCmd req s).Inv := by
  rcases callSendCmd_cases req s with
    ⟨-, e⟩ | ⟨-, -, -, e⟩ | ⟨hu, hc, hf, p, -, e⟩ | ⟨hu, hf, ht, e⟩ | ⟨-, -, p, -, e⟩ <;> rw [e]
  · exact (h.newCompletion.emit _).emit _
  · exact h.emit _
  · exact ((h.register hu hc hf).emit _).emit _
  · exact (h.register hu (by rw [ht]; rfl) hf).emit _
  · exact ((h.emit _).newCompletion.emit _).emit _

/-! ## The sequencer -/

/-- The sequencer's command goes out: the slot holds the command of the phase, one echo expected. -/
theorem seqIssue_inv {s u : State} {q : Sequencer} {next : FoxtronResponse → State → State} (h : s.Inv) (hft : s.Frame u)
    (hu : s.eng.usable = true) (hf : u.eng.inflight = none) (hq : u.eng.seq = some q) (hn : q.results.length = q.phase.gathered) :
    (seqIssue next u).Inv := by
  rw [seqIssue_taken next (hft.usable.trans hu) hf hq]
  refine h.of_frame ((hft.register _).emit _) (fun f hr => ?_) (fun q' hq' => ?_)
  · cases hr
    exact ⟨.inl rfl, rfl, hu⟩
  · obtain rfl : q = q' := Option.some.inj (hq.symm.trans hq')
    exact ⟨hn, _, rfl⟩

/-- The last response ends the sequence and does not touch the slot. -/
theorem seqContinueL_ends {s : State} {q : Sequencer} (hq : s.eng.seq = some q) (r : FoxtronResponse) :
    (seqContinueL r s).eng.seq = none ∧ (seqContinueL r s).eng.inflight = s.eng.inflight := by
  rw [seqContinueL, seqAdvance_active hq, seqFinish_active rfl]
  exact ⟨rfl, rfl⟩

/-- On an unusable engine an issued command is answered at once (48 R330): the sequence ends where its continuation ends it. -/
theorem seqIssue_ends {s : State} {q : Sequencer} {next : FoxtronResponse → State → State} (hu : s.eng.usable = false)
    (hq : s.eng.seq = some q)
    (hnext : ∀ r v, v.eng = s.eng → (next r v).eng.seq = none ∧ (next r v).eng.inflight = v.eng.inflight) :
    (seqIssue next s).eng.seq = none ∧ (seqIssue next s).eng.inflight = s.eng.inflight := by
  rw [seqIssue_unusable next hu hq]
  exact hnext _ _ rfl

theorem seqContinueM_ends {s : State} {q : Sequencer} (hu : s.eng.usable = false) (hq : s.eng.seq = some q) (r : FoxtronResponse) :
    (seqContinueM r s).eng.seq = none ∧ (seqContinueM r s).eng.inflight = s.eng.inflight := by
  rw [seqContinueM, seqAdvance_active hq]
  exact seqIssue_ends hu rfl fun r' v hv => seqContinueL_ends (congrArg Engine.seq hv) r'

theorem seqContinueH_ends {s : State} {q : Sequencer} (hu : s.eng.usable = false) (hq : s.eng.seq = some q) (r : FoxtronResponse) :
    (seqContinueH r s).eng.seq = none ∧ (seqContinueH r s).eng.inflight = s.eng.inflight := by
  rw [seqContinueH, seqAdvance_active hq]
  exact seqIssue_ends hu rfl fun r' v hv => seqContinueM_ends ((congrArg Engine.usable hv).trans hu) (congrArg Engine.seq hv) r'

/-- A search started on an unusable engine is over at once, the slot as it was (48 R345, R346). -/
theorem startSearch_ends {s : State} (hu : s.eng.usable = false) (v : BitVec 24) :
    (seqIssue seqContinueH (s.startSearch v)).eng.seq = none ∧
    (seqIssue seqContinueH (s.startSearch v)).eng.inflight = s.eng.inflight :=
  seqIssue_ends (s := s.startSearch v) hu rfl fun r _ hv =>
    seqContinueH_ends ((congrArg Engine.usable hv).trans hu) (congrArg Engine.seq hv) r

/-- The sequencer goes on from a state that only the completed request and its own state tell from one with the invariant. -/
theorem seqContinue_inv {s u : State} {q : Sequencer} (h : s.Inv) (hft : s.Frame u) (hu : s.eng.usable = true)
    (hf : u.eng.inflight = none) (hq : u.eng.seq = some q) (hn : q.results.length = q.phase.gathered) (r : FoxtronResponse) :
    (seqContinue r u).Inv := by
  rcases seqContinue_cases r u with ⟨hq', -⟩ | ⟨q', hq', hp, e⟩ | ⟨q', hq', hp, e⟩ | ⟨q', hq', hp, e⟩
  · simp [hq] at hq'
  all_goals
    obtain rfl : q = q' := Option.some.inj (hq.symm.trans hq')
    rw [e]
  · rw [seqContinueH, seqAdvance_active hq]
    exact seqIssue_inv h (hft.setSeq _) hu hf rfl (by simp [hn, hp, SeqPhase.gathered])
  · rw [seqContinueM, seqAdvance_active hq]
    exact seqIssue_inv h (hft.setSeq _) hu hf rfl (by simp [hn, hp, SeqPhase.gathered])
  · obtain ⟨hend, hslot⟩ := seqContinueL_ends hq r
    exact h.of_frame_idle (hft.trans (seqContinueL_frame r u)) (by simp [hslot, hf]) hend

theorem setSearchAddress_inv {s : State} (h : s.Inv) (v : BitVec 24) : (setSearchAddress v s).Inv := by
  have hft := startSearch_frame v s
  cases hq : s.eng.seq with
  | some q => rw [setSearchAddress_active hq]; exact h.emit _
  | none =>
    rw [setSearchAddress_idle hq]
    refine State.Inv.emit ?_ _
    cases hu : s.eng.usable with
    | false =>
      obtain ⟨hend, hslot⟩ := startSearch_ends hu v
      exact h.of_frame_idle (hft.trans (seqIssue_frame seqContinueH_frame _)) (by simp [hslot]) hend
    | true =>
      cases hf : s.eng.inflight with
      | none => exact seqIssue_inv h hft hu hf rfl rfl
      | some f =>
        rw [seqIssue_busy _ (hft.usable.trans hu) hf rfl]
        exact h.of_frame_idle ((hft.setSeq none).emit _) (fun _ hf => hf) rfl

/-! ## Routing and cancellation -/

theorem distinctRoute_inv {s : State} (h : s.Inv) (r : FoxtronResponse) : (distinctRoute r s).Inv := by
  rcases distinctRoute_cases r s with ⟨-, e⟩ | ⟨f, hf, hr, e⟩ | ⟨f, hf, -, hq, e⟩ | ⟨f, q, hf, -, hq, e⟩ <;> rw [e]
  · exact h
  · -- two echoes were expected, so the request is not the sequencer's and one is left
    obtain ⟨hn, hc⟩ := h.echoes f hf
    refine h.of_frame ((State.Frame.refl s).setInflight _) (fun f' hf' => ?_) (fun q hq => ?_)
    · cases hf'
      exact ⟨.inl (by show f.remainingEchoes - 1 = 1; omega), hc, h.slotUsable f hf⟩
    · obtain ⟨-, c, hown⟩ := h.sequencer q hq
      obtain rfl := Option.some.inj (hf.symm.trans hown)
      cases hr
  · exact h.of_frame_idle (completed_frame r f s) (fun _ hf' => nomatch hf') hq
  · obtain ⟨hn, -⟩ := h.sequencer q hq
    exact seqContinue_inv h (completed_frame r f s) (h.slotUsable f hf) rfl hq hn r

/-- Cancellation frees the slot and stops the sequencer, where the sequencer runs only with a request in flight. -/
theorem cancelInflight_frees {s : State} (h : s.eng.inflight = none → s.eng.seq = none) :
    (cancelInflight s).eng.inflight = none ∧ (cancelInflight s).eng.seq = none := by
  rcases cancelInflight_cases s with ⟨hf, e⟩ | ⟨f, -, hq, e⟩ | ⟨f, q, -, -, e⟩ <;> rw [e]
  · exact ⟨hf, h hf⟩
  · exact ⟨rfl, hq⟩
  · exact ⟨rfl, rfl⟩

theorem cancelInflight_inv {s : State} (h : s.Inv) : (cancelInflight s).Inv := by
  obtain ⟨hf, hq⟩ := cancelInflight_frees h.seq_idle
  exact h.of_frame_idle (cancelInflight_frame s) (by simp [hf]) hq

/-! ## Session steps -/

/-- After `announceOpen` the event has been emitted; nothing else of the engine state is written. -/
theorem announceOpen_writes (s : State) : (announceOpen s).cfg = s.cfg ∧ (announceOpen s).eng = { s.eng with openEmitted := true } := by
  cases ho : s.eng.openEmitted with
  | false => simp [announceOpen, ho, State.setOpenEmitted]
  | true =>
    have same : { s.eng with openEmitted := true } = s.eng := by rw [← ho]
    simp [announceOpen, ho, same]

/-- Everything `transportOpen` can do to the configuration and the engine state (48 R340). -/
theorem transportOpen_cases (s : State) :
    ((s.eng.session = .destroyed ∨ s.eng.transportOpen = true) ∧ transportOpen s = s) ∨
    (s.eng.session ≠ .destroyed ∧ s.eng.transportOpen = false ∧ (transportOpen s).cfg = s.cfg ∧
      ((s.cfg.bootMethod = .noBoot ∧
          ∃ b, (transportOpen s).eng = { s.eng with transportOpen := true, openEmitted := b }) ∨
        (s.cfg.bootMethod ≠ .noBoot ∧
          ∃ b, (transportOpen s).eng = { s.eng with transportOpen := true, bootTimerArmed := true, dtrAsserted := b }))) := by
  by_cases hs : s.eng.session = .destroyed ∨ s.eng.transportOpen = true
  · exact .inl ⟨hs, by simp [transportOpen, hs]⟩
  · obtain ⟨hd, ho⟩ := not_or.1 hs
    rw [Bool.not_eq_true] at ho
    refine .inr ⟨hd, ho, ?_⟩
    cases hb : s.cfg.bootMethod with
    | noBoot =>
      cases he : s.cfg.emitOpenWithoutBoot with
      | false =>
        have e : transportOpen s = s.setTransportOpen true := by simp [transportOpen, hd, ho, hb, he]
        rw [e]
        exact ⟨rfl, .inl ⟨rfl, s.eng.openEmitted, rfl⟩⟩
      | true =>
        have e : transportOpen s = announceOpen (s.setTransportOpen true) := by simp [transportOpen, hd, ho, hb, he]
        obtain ⟨hc, heng⟩ := announceOpen_writes (s.setTransportOpen true)
        rw [e]
        exact ⟨hc, .inl ⟨rfl, true, heng⟩⟩
    | waitOnly =>
      have e : transportOpen s = startBootTimer (s.setTransportOpen true) := by simp [transportOpen, hd, ho, hb]
      rw [e]
      exact ⟨rfl, .inr ⟨nofun, s.eng.dtrAsserted, rfl⟩⟩
    | setDTR =>
      have e : transportOpen s = startBootTimer (((s.setTransportOpen true).emit (.setLine true)).setDtrAsserted true) := by
        simp [transportOpen, hd, ho, hb]
      rw [e]
      exact ⟨rfl, .inr ⟨nofun, true, rfl⟩⟩

theorem transportOpen_inv {s : State} (h : s.Inv) : (transportOpen s).Inv := by
  rcases transportOpen_cases s with ⟨-, e⟩ | ⟨hd, ho, hcfg, hcase⟩
  · rw [e]; exact h
  have hf := h.slot_free (by simp [Engine.usable, ho])
  have hq := h.seq_idle hf
  rcases hcase with ⟨hb, b, heng⟩ | ⟨hb, b, heng⟩
  · -- no boot method: the session runs, and no timer is armed
    have hw : s.eng.session ≠ .waitingForBoot := fun hw => (h.booting hw).1 hb
    have ht : s.eng.bootTimerArmed ≠ true := fun ht => hw (h.timer ht).1
    exact .of_idle (by simp [heng, hf]) (by simp [heng, hq]) (by simp [heng, hd]) (by simp [heng, ht]) (by simp [hcfg, hb])
      (by simp [heng, hw])
  · -- with a boot method a session whose transport is closed has not run yet
    have hr : s.eng.session ≠ .running := fun hr => by simp [(h.announced hr hb).2] at ho
    have hw : s.eng.session = .waitingForBoot := by
      cases hs : s.eng.session with
      | waitingForBoot => rfl
      | running => exact absurd hs hr
      | destroyed => exact absurd hs hd
    exact .of_idle (by simp [heng, hf]) (by simp [heng, hq]) (by simp [heng, hw]) (by simp [heng, hw]) (by simp [heng, hw])
      (by simp [heng, hcfg, hb, (h.booting hw).2])

/-- Everything `timerExpiry` can do to the configuration and the engine state (48 R341). -/
theorem timerExpiry_cases (s : State) :
    (s.eng.bootTimerArmed = false ∧ timerExpiry s = s) ∨
    (s.eng.bootTimerArmed = true ∧ (timerExpiry s).cfg = s.cfg ∧
      (timerExpiry s).eng = { s.eng with session := .running, bootTimerArmed := false, openEmitted := true }) := by
  cases ht : s.eng.bootTimerArmed with
  | false => exact .inl ⟨rfl, by simp [timerExpiry, ht]⟩
  | true =>
    have e : timerExpiry s = announceOpen ((s.setBootTimerArmed false).setSession .running) := by simp [timerExpiry, ht]
    rw [e]
    exact .inr ⟨rfl, announceOpen_writes _⟩

theorem timerExpiry_inv {s : State} (h : s.Inv) : (timerExpiry s).Inv := by
  rcases timerExpiry_cases s with ⟨-, e⟩ | ⟨ht, -, heng⟩
  · rw [e]; exact h
  obtain ⟨hw, ho⟩ := h.timer ht
  have hf := h.slot_free (by simp [Engine.usable, hw])
  exact .of_idle (by simp [heng, hf]) (by simp [heng, h.seq_idle hf]) (by simp [heng]) (by simp [heng]) (by simp [heng, ho])
    (by simp [heng])

/-- The state `transportClose` cancels the request in: destroyed, transport closed, timer not armed (48 R342). -/
def State.shutDown (s : State) : State := ((s.setSession .destroyed).setTransportOpen false).setBootTimerArmed false

/-- Everything `transportClose` can do (48 R342). -/
theorem transportClose_cases (err : Option Nat) (s : State) :
    (s.eng.session = .destroyed ∧ transportClose err s = s) ∨
    (s.eng.session ≠ .destroyed ∧ transportClose err s = (cancelInflight s.shutDown).event (.sessionClosed err)) := by
  by_cases hd : s.eng.session = .destroyed
  · exact .inl ⟨hd, by simp [transportClose, hd]⟩
  · exact .inr ⟨hd, by simp [transportClose, hd, State.shutDown]⟩

theorem transportClose_inv {s : State} (h : s.Inv) (err : Option Nat) : (transportClose err s).Inv := by
  rcases transportClose_cases err s with ⟨-, e⟩ | ⟨-, e⟩ <;> rw [e]
  · exact h
  obtain ⟨hf, hq⟩ := cancelInflight_frees (s := s.shutDown) h.seq_idle
  have hft := cancelInflight_frame s.shutDown
  have hd : (cancelInflight s.shutDown).eng.session = .destroyed := hft.session
  have ho : (cancelInflight s.shutDown).eng.transportOpen = false := hft.transportOpen
  have ht : (cancelInflight s.shutDown).eng.bootTimerArmed = false := hft.bootTimerArmed
  exact State.Inv.emit (.of_idle hf hq (by simp [ho, ht]) (by simp [ht]) (by simp [hd]) (by simp [hd])) _

/-! ## Every step -/

theorem ExecShape.inv {i : Instr} {s t : State} (h : s.Inv) (k : ExecShape i s t) : t.Inv := by
  cases k with
  | one o ho ht => rw [ht]; exact h.emit o
  | two o o' ho ho' ht => rw [ht]; exact (h.emit o).emit o'
  | sent req hi ht => rw [ht]; exact callSendCmd_inv h req
  | routed r hi ht => rw [ht]; exact distinctRoute_inv h r

theorem StepShape.inv {x : Input} {s t : State} (h : s.Inv) (k : StepShape x s t) : t.Inv := by
  cases k with
  | presented e i hx hd k => exact k.inv h
  | strobed o ho ht => rw [ht]; exact h.emit o
  | opened hx ht => rw [ht]; exact transportOpen_inv h
  | closed err hx ht => rw [ht]; exact transportClose_inv h err
  | expired hx ht => rw [ht]; exact timerExpiry_inv h
  | cancelled hx ht => rw [ht]; exact cancelInflight_inv h
  | searched v hx ht => rw [ht]; exact setSearchAddress_inv h v

/-- The three session steps are the only ones that leave the frame. -/
theorem StepShape.frame_or_session {x : Input} {s t : State} (k : StepShape x s t) :
    s.Frame t ∨ t = transportOpen s ∨ (∃ err, t = transportClose err s) ∨ t = timerExpiry s := by
  cases k with
  | presented e i hx hd k => exact .inl k.frame
  | strobed o ho ht => rw [ht]; exact .inl ((State.Frame.refl s).emit o)
  | opened hx ht => exact .inr (.inl ht)
  | closed err hx ht => exact .inr (.inr (.inl ⟨err, ht⟩))
  | expired hx ht => exact .inr (.inr (.inr ht))
  | cancelled hx ht => rw [ht]; exact .inl (cancelInflight_frame s)
  | searched v hx ht => rw [ht]; exact .inl (setSearchAddress_frame v s)

theorem transportOpen_session (s : State) : (transportOpen s).cfg = s.cfg ∧ (transportOpen s).eng.session = s.eng.session := by
  rcases transportOpen_cases s with ⟨-, e⟩ | ⟨-, -, hcfg, ⟨-, b, heng⟩ | ⟨-, b, heng⟩⟩
  · rw [e]; exact ⟨rfl, rfl⟩
  · exact ⟨hcfg, by rw [heng]⟩
  · exact ⟨hcfg, by rw [heng]⟩

theorem transportClose_session (err : Option Nat) (s : State) :
    (transportClose err s).cfg = s.cfg ∧ (transportClose err s).eng.session = .destroyed := by
  rcases transportClose_cases err s with ⟨hd, e⟩ | ⟨-, e⟩ <;> rw [e]
  · exact ⟨rfl, hd⟩
  · have hft := cancelInflight_frame s.shutDown
    exact ⟨hft.cfg, hft.session⟩

/-- The timer is not armed in a destroyed session, so its expiry does not bring it back. -/
theorem timerExpiry_session {s : State} (h : s.Inv) :
    (timerExpiry s).cfg = s.cfg ∧ (s.eng.session = .destroyed → (timerExpiry s).eng.session = .destroyed) := by
  rcases timerExpiry_cases s with ⟨-, e⟩ | ⟨ht, hcfg, -⟩
  · rw [e]; exact ⟨rfl, id⟩
  · refine ⟨hcfg, fun hd => ?_⟩
    obtain ⟨-, -, hoff⟩ := h.destroyed hd
    simp [ht] at hoff

theorem StepShape.session {x : Input} {s t : State} (h : s.Inv) (k : StepShape x s t) :
    t.cfg = s.cfg ∧ (s.eng.session = .destroyed → t.eng.session = .destroyed) := by
  rcases k.frame_or_session with hft | rfl | ⟨err, rfl⟩ | rfl
  · exact ⟨hft.cfg, hft.session.trans⟩
  · obtain ⟨hcfg, hs⟩ := transportOpen_session s
    exact ⟨hcfg, hs.trans⟩
  · obtain ⟨hcfg, hs⟩ := transportClose_session err s
    exact ⟨hcfg, fun _ => hs⟩
  · exact timerExpiry_session h

/-- Settles O54, by the shapes a step can have: each operation keeps the invariant. -/
theorem everyStepKeepsTheEngineInvariant : Obligations.EveryStepKeepsTheEngineInvariant := by
  intro s t h hstep
  rcases step_cases hstep with ⟨-, rfl⟩ | ⟨x, rest, -, k⟩
  · exact ⟨h, rfl, id⟩
  · have h' := h.setInputs rest
    have hs := k.session h'
    exact ⟨k.inv h', hs⟩

end Sys2Proof.Machine
end

section
/-! The state after construction (10_state R39), and that the four invariants hold of it. -/

namespace Sys2Proof.Machine

theorem construct_session_noBoot {cfg : Config} (h : cfg.bootMethod = .noBoot) : (State.construct cfg).eng.session = .running := by
  simp [State.construct, Engine.construct, h]

theorem construct_session_boot {cfg : Config} (h : cfg.bootMethod ≠ .noBoot) :
    (State.construct cfg).eng.session = .waitingForBoot := by
  simp [State.construct, Engine.construct, h]

theorem construct_session_ne_destroyed (cfg : Config) : (State.construct cfg).eng.session ≠ .destroyed := by
  by_cases h : cfg.bootMethod = .noBoot
  · simp [construct_session_noBoot h]
  · simp [construct_session_boot h]

/-- With a boot method exactly, construction leaves the session waiting. -/
theorem construct_waiting_iff (cfg : Config) :
    (State.construct cfg).eng.session = .waitingForBoot ↔ cfg.bootMethod ≠ .noBoot := by
  refine ⟨fun hw h => ?_, construct_session_boot⟩
  simp [construct_session_noBoot h] at hw

theorem construct_not_usable (cfg : Config) : (State.construct cfg).eng.usable = false := rfl

/-- Settles O52. -/
theorem constructionState : Obligations.ConstructionState := by
  refine ⟨fun cfg => ?_, rfl⟩
  exact ⟨rfl, construct_session_noBoot, construct_session_boot, rfl, rfl, rfl, rfl, rfl, rfl, construct_not_usable cfg⟩

theorem construct_inv (cfg : Config) : (State.construct cfg).Inv := by
  refine .of_idle rfl rfl (fun _ => ⟨rfl, rfl⟩) nofun (fun hr hb => ?_) (fun hw => ⟨(construct_waiting_iff cfg).1 hw, rfl⟩)
  rw [(construct_waiting_iff cfg).2 hb] at hr
  cases hr

/-- Nothing has fired and nothing is pending. -/
theorem construct_fireOnce (cfg : Config) : (State.construct cfg).FireOnce where
  once := List.nodup_nil
  made _ h := absurd h List.not_mem_nil
  slot _ h := by cases h
  sequence _ h := by cases h
  apart _ _ h := by cases h

theorem construct_framesSound (cfg : Config) : (State.construct cfg).FramesSound :=
  fun _ h => absurd h List.not_mem_nil

/-- No session event has been emitted, and the session is not destroyed. -/
theorem construct_marksSound (cfg : Config) : (State.construct cfg).MarksSound := by
  unfold State.MarksSound
  rw [if_neg (construct_session_ne_destroyed cfg)]
  rfl

/-- Settles O53, one invariant after the other. -/
theorem invariantsHoldAtConstruction : Obligations.InvariantsHoldAtConstruction := fun cfg =>
  ⟨construct_inv cfg, construct_fireOnce cfg, construct_framesSound cfg, construct_marksSound cfg⟩

end Sys2Proof.Machine
end

section
/-! The checksum and the frames: what the hex digits of bytes sum to, what a frame's positions read back, and the layout of every
request frame (30_encoding R85 to R95, 46_foxtron_requests R286 to R291). -/

namespace Sys2Proof

/-! ## The sum of the byte pairs -/

/-- The digits of bytes pair up to the bytes. -/
@[simp] theorem bytePairs_flatMap_hex2 (bs : List Byte) : bytePairs (bs.flatMap hex2) = bs := by
  induction bs with
  | nil => rfl
  | cons b bs ih =>
    calc bytePairs ((b :: bs).flatMap hex2)
        = (b.extractLsb' 4 4 ++ b.extractLsb' 0 4 : BitVec (4 + 4)) :: bytePairs (bs.flatMap hex2) := rfl
      _ = b :: bs := by rw [hex2_value, ih]

@[simp] theorem padEven_flatMap_hex2 (bs : List Byte) : padEven (bs.flatMap hex2) = bs.flatMap hex2 := by
  have even : (bs.flatMap hex2).length % 2 = 0 := by simp [List.length_flatMap]
  exact if_pos even

theorem padEven_odd {p : HexString} (h : p.length % 2 = 1) : padEven p = padEven (0 :: p) := by
  have even : (0 :: p : HexString).length % 2 = 0 := by rw [List.length_cons]; omega
  rw [padEven, padEven, if_neg (by omega), if_pos even]

theorem byteSum_toNat (bs : List Byte) : (byteSum bs).toNat = (bs.map (·.toNat)).sum % 256 := by
  induction bs with
  | nil => rfl
  | cons b bs ih =>
    calc (b + byteSum bs).toNat
        = (b.toNat + (byteSum bs).toNat) % 256 := BitVec.toNat_add b (byteSum bs)
      _ = (b.toNat + (bs.map (·.toNat)).sum) % 256 := by rw [ih, Nat.add_mod_mod]
      _ = ((b :: bs).map (·.toNat)).sum % 256 := by rw [List.map_cons, List.sum_cons]

theorem checksum_flatMap_hex2 (bs : List Byte) : checksum (bs.flatMap hex2) = hex2 (0xFF - byteSum bs) := by
  rw [checksum, padEven_flatMap_hex2, bytePairs_flatMap_hex2]

theorem checksum_odd {p : HexString} (h : p.length % 2 = 1) : checksum p = checksum (0 :: p) := by
  rw [checksum, checksum, padEven_odd h]

/-- The difference the checksum takes does not borrow (30 R86). -/
theorem checksumByte_toNat (bs : List Byte) : (0xFF - byteSum bs).toNat = 0xFF - (bs.map (·.toNat)).sum % 256 := by
  have le : byteSum bs ≤ 0xFF := Nat.le_of_lt_succ (byteSum bs).isLt
  rw [BitVec.toNat_sub_of_le le, byteSum_toNat]
  rfl

/-- Settles O12. -/
theorem checksumFunction : Obligations.ChecksumFunction := by
  refine ⟨fun bs => ?_, fun p => checksum_odd, by decide, by decide, by decide⟩
  rw [checksum_flatMap_hex2, ← checksumByte_toNat, BitVec.ofNat_toNat, BitVec.setWidth_eq]

/-! ## A valid checksum -/

theorem hex2_inj {a b : Byte} (h : hex2 a = hex2 b) : a = b := by
  have pairs : bytePairs (hex2 a) = bytePairs (hex2 b) := congrArg bytePairs h
  simpa [bytePairs, hex2, hex2_value] using pairs

/-- Every character a digit was written as is read back. -/
theorem mapM_hexDigit_hexChar (ds : HexString) : (ds.map hexChar).mapM hexDigit = some ds := by
  induction ds with
  | nil => rfl
  | cons d ds ih => simp [ih]

/-- The frame with this checksum byte is valid exactly if the byte's digits are the payload's checksum (30 R87). -/
theorem checksumValid_frameWith (k : Byte) (p : HexString) :
    checksumValid (frameWith k p) = true ↔ hex2 k = checksum p := by
  have digits : ((frameWith k p).drop 1).dropLast.mapM hexDigit = some (p ++ hex2 k) := by
    simp only [frameWith, List.drop_succ_cons, List.drop_zero, List.dropLast_concat]
    exact mapM_hexDigit_hexChar _
  have len : (p ++ hex2 k).length - 2 = p.length := by simp
  simp only [checksumValid, digits, len, List.drop_left, List.take_left, decide_eq_true_eq]

/-- Settles O13: the checksum byte is the payload's exactly if it makes the sum up to 0xFF. -/
theorem validFrameSumsTo255 : Obligations.ValidFrameSumsTo255 := by
  intro bs k _
  have kbound := k.isLt
  calc checksumValid (frameWith k (bs.flatMap hex2)) = true
      ↔ hex2 k = hex2 (0xFF - byteSum bs) := by rw [checksumValid_frameWith, checksum_flatMap_hex2]
    _ ↔ k = 0xFF - byteSum bs := ⟨hex2_inj, congrArg hex2⟩
    _ ↔ ((bs.map (·.toNat)).sum + k.toNat) % 256 = 255 := by
      rw [← BitVec.toNat_inj, checksumByte_toNat]
      omega

/-! ## Reading a frame's positions -/

theorem checksumValid_frameOf (p : HexString) : checksumValid (frameOf p) = true :=
  (checksumValid_frameWith _ p).2 rfl

theorem frameOf_head (p : HexString) : (frameOf p)[0]? = some soh := rfl

theorem frameOf_getLast (p : HexString) : (frameOf p).getLast? = some etb := by
  rw [frameOf, ← List.cons_append, List.getLast?_concat]

theorem frameOf_last (p : HexString) : (frameOf p)[p.length + 3]? = some etb := by
  rw [← frameOf_getLast p, List.getLast?_eq_getElem?, frameOf_length]
  rfl

/-- A payload digit stands one place further in the frame, after `SOH`. -/
theorem digitAt_frameOf_of_payload {p : HexString} {i : Nat} {d : Nibble} (h : p[i]? = some d) :
    digitAt (frameOf p) (i + 1) = some d := by
  obtain ⟨hi, -⟩ := List.getElem?_eq_some_iff.1 h
  rw [digitAt_frameOf p i (by omega), List.getElem?_append_left hi, h]

/-- A byte whose digits stand in the payload is read from the frame. -/
theorem unhex2_frameOf {p : HexString} {i : Nat} {b : Byte} (h : (p.drop i).take 2 = hex2 b) :
    unhex2 (frameOf p) (i + 1) = .ok b := by
  have digit (j : Nat) (hj : j < 2) : p[i + j]? = (hex2 b)[j]? := by
    rw [← h, List.getElem?_take_of_lt hj, List.getElem?_drop]
  have high := digitAt_frameOf_of_payload (digit 0 (by omega))
  have low := digitAt_frameOf_of_payload (digit 1 (by omega))
  rw [Nat.add_zero] at high
  rw [Nat.add_right_comm] at low
  simp only [unhex2, high, low, hex2_value]

/-- A word whose digits stand in the payload is read from the frame. -/
theorem unhex4_frameOf {p : HexString} {i : Nat} {w : Word} (h : (p.drop i).take 4 = hex4 w) :
    unhex4 (frameOf p) (i + 1) = .ok w := by
  have high : (p.drop i).take 2 = hex2 (w.extractLsb' 8 8) := by
    have h' := congrArg (List.take 2) h
    rwa [List.take_take] at h'
  have low : (p.drop (i + 2)).take 2 = hex2 (w.extractLsb' 0 8) := by
    have h' := congrArg (List.drop 2) h
    rwa [List.drop_take, List.drop_drop] at h'
  have bytes : (w.extractLsb' 8 8 ++ w.extractLsb' 0 8 : BitVec (8 + 8)) = w := BitVec.extractLsb'_append_extractLsb'
  simp only [unhex4, unhex2_frameOf high, Nat.add_right_comm i 1 2, unhex2_frameOf low, bytes]

/-- The last field of a payload stands before the checksum, as its characters. -/
theorem frameOf_field (p q : HexString) :
    ((frameOf (p ++ q)).drop (p.length + 1)).take q.length = q.map hexChar := by
  have split : ((p ++ q ++ checksum (p ++ q)).map hexChar ++ [etb]) =
      p.map hexChar ++ (q.map hexChar ++ ((checksum (p ++ q)).map hexChar ++ [etb])) := by
    simp only [List.map_append, List.append_assoc]
  rw [frameOf, List.drop_succ_cons, split, List.drop_left' (List.length_map _), List.take_left' (List.length_map _)]

/-! ## The fields of a request -/

theorem frameEncode_of_payload {cfg : Config} {req : FoxtronRequest} {p : HexString} (h : payload cfg req = .ok p) :
    frameEncode cfg req = .ok (frameOf p) := by
  rw [frameEncode, h]

/-- The two bits of the distinct parameter do not overlap, so they add (30 R91). -/
theorem distinctParameter_sum (ds q : Option Bool) :
    distinctParameter ds q =
      BitVec.ofNat 8 ((if ds = some true then 1 else 0) + (if q = some true then 2 else 0)) := by
  by_cases hd : ds = some true <;> by_cases hq : q = some true <;> simp [distinctParameter, hd, hq]

theorem priorityByte_of_range {x : Value} (h0 : 0 ≤ x.toInt) (h5 : x.toInt ≤ 5) :
    ((priorityByte (some x)).toNat : Int) = x.toInt := by
  have msb : x.msb = false := by rw [BitVec.msb_eq_toInt]; exact decide_eq_false (by omega)
  have nat : x.toInt = x.toNat := BitVec.toInt_eq_toNat_of_msb msb
  rw [priorityByte, if_neg (by omega), BitVec.toNat_setWidth]
  omega

theorem priorityByte_of_not_range {x : Value} (h : x.toInt < 0 ∨ 5 < x.toInt) : priorityByte (some x) = 0 := by
  rw [priorityByte, if_pos h]

/-- The code of `Send` is the source's own number (00_scope R8, 30 R88). -/
theorem reqTypeCode_send {cfg : Config} (h : cfg.wf = true) : cfg.reqTypeCode .send = 0x01 := by
  simp only [Config.wf, Bool.and_eq_true, decide_eq_true_eq] at h
  obtain ⟨⟨⟨-, send⟩, -⟩, -⟩ := h
  exact send

/-- Settles O14, field by field: each stands at its place in the payload, and the frame reads it back. -/
theorem requestFrameLayouts : Obligations.RequestFrameLayouts := by
  intro cfg hwf c p ds q i d
  refine ⟨?send, ?distinctSend, ?continuousSend, ?confQuery, ?confChange, ?sequenceEnd, rfl,
    fun x => priorityByte_of_range, fun x => priorityByte_of_not_range⟩
  case send =>
    refine ⟨_, frameEncode_of_payload rfl, frameOf_length _, frameOf_head _, unhex2_frameOf ?_, unhex2_frameOf rfl,
      unhex2_frameOf rfl, unhex4_frameOf rfl, checksumValid_frameOf _, frameOf_last _⟩
    rw [reqTypeCode_send hwf]
    rfl
  case distinctSend =>
    refine ⟨_, frameEncode_of_payload rfl, frameOf_length _, frameOf_head _, unhex2_frameOf rfl, unhex2_frameOf rfl,
      unhex2_frameOf rfl, unhex4_frameOf rfl, unhex2_frameOf ?_, checksumValid_frameOf _, frameOf_last _⟩
    rw [distinctParameter_sum]
    rfl
  case continuousSend =>
    exact ⟨_, frameEncode_of_payload rfl, frameOf_length _, frameOf_head _, unhex2_frameOf rfl, unhex2_frameOf rfl,
      unhex2_frameOf rfl, unhex4_frameOf rfl, checksumValid_frameOf _, frameOf_last _⟩
  case confQuery =>
    exact ⟨_, frameEncode_of_payload rfl, frameOf_length _, frameOf_head _, unhex2_frameOf rfl, unhex2_frameOf rfl,
      checksumValid_frameOf _, frameOf_last _⟩
  case confChange =>
    refine ⟨_, frameEncode_of_payload rfl, ?_, frameOf_head _, unhex2_frameOf rfl, unhex2_frameOf rfl,
      frameOf_field (hex2 _ ++ hex2 i) _, checksumValid_frameOf _, frameOf_getLast _⟩
    simp only [frameOf_length, List.length_append, hex2_length]
    omega
  case sequenceEnd =>
    exact ⟨_, frameEncode_of_payload rfl, frameOf_length _, frameOf_head _, unhex2_frameOf rfl, unhex2_frameOf rfl,
      checksumValid_frameOf _, frameOf_last _⟩

end Sys2Proof
end

section
/-! The forward word: the address byte, the two bytes a command becomes, and the words no command becomes (30_encoding R70 to R82,
40_dali_codec_core R130 to R136). -/

namespace Sys2Proof

/-! ## The address byte -/

theorem addressByte_short_toNat (n : BitVec 6) : (addressByte (.short n)).toNat = 2 * n.toNat := by
  have bound := n.isLt
  simp only [addressByte, BitVec.toNat_shiftLeft, BitVec.toNat_setWidth, Nat.shiftLeft_eq]
  omega

theorem addressByte_group_toNat (g : BitVec 4) : (addressByte (.group g)).toNat = 0x80 + 2 * g.toNat := by
  have bound := g.isLt
  simp only [addressByte, BitVec.toNat_add, BitVec.toNat_shiftLeft, BitVec.toNat_setWidth, BitVec.toNat_ofNat, Nat.shiftLeft_eq]
  omega

/-- The low bit of a byte is its parity. -/
theorem lowBit_eq_odd {n : Nat} (b : BitVec n) : b.getLsbD 0 = decide (b.toNat % 2 = 1) := by
  rw [BitVec.getLsbD, Nat.testBit_zero]

/-- The selector bit of an address byte is clear (30 R79). -/
theorem addressByte_even (a : DALIAddress) : (addressByte a).getLsbD 0 = false := by
  rw [lowBit_eq_odd, decide_eq_false_iff_not]
  cases a with
  | short n => rw [addressByte_short_toNat]; omega
  | group g => rw [addressByte_group_toNat]; omega
  | broadcast => decide

theorem addressByte_short_field (n : BitVec 6) : (addressByte (.short n)).extractLsb' 1 7 = 0#1 ++ n := by
  revert n; decide

theorem addressByte_group_field (g : BitVec 4) : (addressByte (.group g)).extractLsb' 1 7 = 0b100#3 ++ g := by
  revert g; decide

/-- Settles O7, one form of address after the other. -/
theorem addressByteLayout : Obligations.AddressByteLayout := by
  refine ⟨fun n => ⟨addressByte_short_toNat n, ?_, addressByte_short_field n⟩,
    fun g => ⟨addressByte_group_toNat g, ?_, addressByte_group_field g⟩, rfl, rfl, addressByte_even⟩
  · have bound := n.isLt
    rw [addressByte_short_toNat]
    omega
  · have bound := g.isLt
    rw [addressByte_group_toNat]
    omega

/-! ## The two bytes of a word -/

theorem wordOf_toNat (hi lo : Byte) : (wordOf hi lo).toNat = 256 * hi.toNat + lo.toNat := by
  rw [wordOf, BitVec.toNat_append, ← Nat.shiftLeft_add_eq_or_of_lt lo.isLt, Nat.shiftLeft_eq]
  omega

/-- The high byte of a word is its address byte (30 R70). -/
theorem wordOf_high (hi lo : Byte) : (wordOf hi lo).toNat / 256 = hi.toNat := by
  have bound := lo.isLt
  rw [wordOf_toNat]
  omega

/-- Bit 8 of a word is the selector bit of its address byte (30 R71). -/
theorem wordOf_selector (hi lo : Byte) : (wordOf hi lo).getLsbD 8 = hi.getLsbD 0 := by
  rw [wordOf, BitVec.getLsbD_append]
  rfl

/-! ## The selector bit -/

theorem row_level_iff (cfg : Config) (c : Code) : cfg.row c = .level ↔ c = .directArcPower :=
  ⟨row_level, fun h => by rw [h]; rfl⟩

theorem specialByte_toNat {n : Nat} (h : 256 ≤ n ∧ n ≤ 287) : (specialByte n).toNat = 0xA1 + 2 * (n - 256) := by
  rw [specialByte, BitVec.toNat_ofNat]
  omega

/-- The address byte of a special command has its selector bit set (30 R71). -/
theorem specialByte_odd {n : Nat} (h : 256 ≤ n ∧ n ≤ 287) : (specialByte n).getLsbD 0 = true := by
  rw [lowBit_eq_odd, decide_eq_true_eq, specialByte_toNat h]
  omega

/-- A code from 256 on is a row of `CFG.specialCodes`. -/
theorem row_special_of_number {cfg : Config} {c : Code} (h : 256 ≤ cfg.number c) :
    ∃ r, cfg.row c = .special r ∧ cfg.number c = r.code := by
  rw [Config.number] at h ⊢
  cases hr : cfg.row c with
  | level => rw [hr] at h; contradiction
  | indirect r =>
    have bound := r.opcode.isLt
    rw [hr, CodeRow.number] at h
    omega
  | special r => exact ⟨r, rfl, rfl⟩

theorem toBytecode_level {cfg : Config} {c : DALICommand} (h : cfg.row c.code = .level) :
    toBytecode cfg c = wordOf (addressByte (c.address.getD .broadcast)) (c.value.getD 0) := by
  simp only [toBytecode, h]

theorem toBytecode_indirect {cfg : Config} {c : DALICommand} {r : IndirectRow} (h : cfg.row c.code = .indirect r) :
    toBytecode cfg c = wordOf (addressByte (c.address.getD .broadcast) ||| 1)
      (if r.isBlock then r.opcode ||| c.value.getD 0 else r.opcode) := by
  simp only [toBytecode, h]

theorem toBytecode_special {cfg : Config} {c : DALICommand} {r : SpecialRow} (h : cfg.row c.code = .special r) :
    toBytecode cfg c = wordOf (specialByte r.code) (specialLow r.cmdType (c.value.getD 0)) := by
  simp only [toBytecode, h]

/-- The selector bit is clear exactly in the word of a level (30 R71). -/
theorem toBytecode_selector {cfg : Config} (h : cfg.wf = true) (c : DALICommand) :
    (toBytecode cfg c).getLsbD 8 = false ↔ c.code = .directArcPower := by
  rw [← row_level_iff cfg]
  cases hr : cfg.row c.code with
  | level =>
    rw [toBytecode_level hr, wordOf_selector, addressByte_even]
    exact iff_of_true rfl rfl
  | indirect r => simp [toBytecode_indirect hr, wordOf_selector]
  | special r => simp [toBytecode_special hr, wordOf_selector, specialByte_odd (special_range h hr)]

/-- Settles O6: the three forms of a word carry an address byte with the bit clear, the same with the bit set, an odd one. -/
theorem selectorBitMarksLevels : Obligations.SelectorBitMarksLevels := by
  intro cfg c h _
  refine ⟨toBytecode_selector h c, fun hn => ?_⟩
  obtain ⟨r, hr, num⟩ := row_special_of_number hn
  have range := special_range h hr
  rw [toBytecode_special hr, wordOf_high, wordOf_selector, specialByte_toNat range, num]
  exact ⟨by omega, specialByte_odd range⟩

/-! ## The words the decoder turns away -/

/-- The low bytes that the form of a special command does not allow, by the type of the value it carries; all of them where there
is no command (40 R135, R136). -/
def lowRefused : Option ValueType → Nat → Bool
  | some .null, lo => lo ≠ 0
  | some .short, lo => lo % 2 = 0 || 128 ≤ lo
  | some .dataByte, _ | some .random, _ => false
  | some .group, _ | some .scene, _ | some .boolean, _ | some .dataByteAndFalse, _ | none, _ => true

/-- The low byte of a short address has its low bit set and its high bit clear (30 R77). -/
theorem shortForm_iff (lo : Byte) : lo.getLsbD 0 = true ∧ lo.getLsbD 7 = false ↔ lo.toNat % 2 = 1 ∧ lo.toNat < 128 := by
  revert lo; decide

theorem decodeSpecial_malformed_iff (cfg : Config) (w : Word) (hi lo : Byte) :
    decodeSpecial cfg w hi lo = .error (.malformedBytecode w) ↔
      hi.getLsbD 0 = false ∨ lowRefused ((specialOf cfg hi).map (cmdValueType cfg)) lo.toNat = true := by
  unfold decodeSpecial
  split
  next even => exact iff_of_true rfl (.inl even)
  next odd =>
    rw [or_iff_right odd]
    cases specialOf cfg hi with
    | none => exact iff_of_true rfl rfl
    | some c =>
      cases ht : cmdValueType cfg c with
      | null => simp [ht, lowRefused, ← BitVec.toNat_inj]
      | short =>
        simp only [ht, shortForm_iff, lowRefused, Option.map_some]
        split <;> simp <;> omega
      | dataByte | random | group | scene | boolean | dataByteAndFalse => simp [ht, lowRefused]

theorem decodeAddressed_malformed_iff (cfg : Config) (w : Word) (a : DALIAddress) (hi lo : Byte) :
    decodeAddressed cfg w a hi lo = .error (.malformedBytecode w) ↔
      hi.getLsbD 0 = false ∧ lo = 0xFF ∨
        hi.getLsbD 0 = true ∧ singleOpcode cfg lo = none ∧ blockOpcode cfg (lo &&& 0xF0) = none := by
  unfold decodeAddressed
  cases hi.getLsbD 0 with
  | false => simp
  | true => cases singleOpcode cfg lo <;> cases blockOpcode cfg (lo &&& 0xF0) <;> simp

theorem isSpecialByte_iff (hi : Byte) :
    hi.extractLsb' 5 3 = 0b101#3 ∨ hi.extractLsb' 5 3 = 0b110#3 ↔ 0xA0 ≤ hi.toNat ∧ hi.toNat ≤ 0xDF := by
  revert hi; decide

theorem wordAddress_eq_none_iff (hi : Byte) : wordAddress hi = none ↔ 0xA0 ≤ hi.toNat ∧ hi.toNat ≤ 0xFD := by
  revert hi; decide

theorem highByte_toNat (w : Word) : (w.extractLsb' 8 8).toNat = w.toNat / 256 := by
  have bound := w.isLt
  rw [BitVec.extractLsb'_toNat, Nat.shiftRight_eq_div_pow]
  omega

theorem lowByte_toNat (w : Word) : (w.extractLsb' 0 8).toNat = w.toNat % 256 := by
  rw [BitVec.extractLsb'_toNat, Nat.shiftRight_zero]

theorem fromBytecode_special (cfg : Config) {w : Word} (h : 0xA0 ≤ w.toNat / 256 ∧ w.toNat / 256 ≤ 0xDF) :
    fromBytecode cfg w = decodeSpecial cfg w (w.extractLsb' 8 8) (w.extractLsb' 0 8) := by
  rw [← highByte_toNat, ← isSpecialByte_iff] at h
  exact if_pos h

theorem fromBytecode_reserved (cfg : Config) {w : Word} (h : 0xE0 ≤ w.toNat / 256 ∧ w.toNat / 256 ≤ 0xFD) :
    fromBytecode cfg w = .error (.malformedBytecode w) := by
  rw [← highByte_toNat] at h
  have address : wordAddress (w.extractLsb' 8 8) = none := (wordAddress_eq_none_iff _).2 (by omega)
  simp only [fromBytecode, isSpecialByte_iff, address]
  exact if_neg (by omega)

theorem fromBytecode_addressed (cfg : Config) {w : Word} (h : w.toNat / 256 < 0xA0 ∨ 0xFD < w.toNat / 256) :
    ∃ a, fromBytecode cfg w = decodeAddressed cfg w a (w.extractLsb' 8 8) (w.extractLsb' 0 8) := by
  rw [← highByte_toNat] at h
  cases address : wordAddress (w.extractLsb' 8 8) with
  | none => have := (wordAddress_eq_none_iff _).1 address; omega
  | some a =>
    refine ⟨a, ?_⟩
    simp only [fromBytecode, isSpecialByte_iff, address]
    exact if_neg (by omega)

/-! ## The illegal words of the default tables -/

/-- The opcodes no indirect command has, in R82's numbers. -/
def unassignedOpcode (lo : Nat) : Bool :=
  10 ≤ lo && lo ≤ 15 || 34 ≤ lo && lo ≤ 41 || 48 ≤ lo && lo ≤ 63 || 130 ≤ lo && lo ≤ 143 || 158 ≤ lo && lo ≤ 159 ||
    166 ≤ lo && lo ≤ 175 || 198 ≤ lo && lo ≤ 254

/-- What the command of an odd special address byte carries, in R82's numbers; nothing where no command has the byte. -/
def specialCarries (hi : Nat) : Option ValueType :=
  if hi = 0xAF ∨ hi = 0xBF ∨ 0xC9 ≤ hi then none
  else if hi = 0xA1 ∨ hi = 0xA7 ∨ hi = 0xA9 ∨ hi = 0xAB ∨ hi = 0xAD ∨ hi = 0xBB ∨ hi = 0xBD then some .null
  else if hi = 0xB7 ∨ hi = 0xB9 then some .short
  else if hi = 0xB1 ∨ hi = 0xB3 ∨ hi = 0xB5 then some .random
  else some .dataByte

theorem illegalWord_special {w : Word} (h : 0xA0 ≤ w.toNat / 256 ∧ w.toNat / 256 ≤ 0xDF) :
    illegalWord w = true ↔
      w.toNat / 256 % 2 = 0 ∨ lowRefused (specialCarries (w.toNat / 256)) (w.toNat % 256) = true := by
  unfold illegalWord
  generalize w.toNat / 256 = hi at h ⊢
  generalize w.toNat % 256 = lo
  have special : (decide (0xA0 ≤ hi) && decide (hi ≤ 0xDF)) = true := by simpa using h
  have reserved : (decide (0xE0 ≤ hi) && decide (hi ≤ 0xFD)) = false := by simp; omega
  simp only [special, reserved, Bool.true_and, Bool.false_or, Bool.not_true, Bool.false_and, Bool.or_false]
  unfold specialCarries
  split_ifs with none null short random <;> simp [lowRefused, *] <;> omega

theorem illegalWord_reserved {w : Word} (h : 0xE0 ≤ w.toNat / 256 ∧ w.toNat / 256 ≤ 0xFD) : illegalWord w = true := by
  simp [illegalWord, h]

theorem illegalWord_addressed {w : Word} (h : w.toNat / 256 < 0xA0 ∨ 0xFD < w.toNat / 256) :
    illegalWord w = true ↔
      w.toNat / 256 % 2 = 0 ∧ w.toNat % 256 = 255 ∨ w.toNat / 256 % 2 = 1 ∧ unassignedOpcode (w.toNat % 256) = true := by
  unfold illegalWord
  generalize w.toNat / 256 = hi at h ⊢
  have special : (decide (0xA0 ≤ hi) && decide (hi ≤ 0xDF)) = false := by simp; omega
  have reserved : (decide (0xE0 ≤ hi) && decide (hi ≤ 0xFD)) = false := by simp; omega
  simp [special, reserved, unassignedOpcode]

theorem row_of_defaultTables {cfg : Config} (h : cfg.defaultTables) : cfg.row = profileP0.row :=
  funext fun c => (h c).trans (defaultTables_of_nil (cfg := profileP0) rfl rfl c).symm

theorem opcode_unassigned_iff {cfg : Config} (h : cfg.defaultTables) (lo : Byte) :
    (singleOpcode cfg lo = none ∧ blockOpcode cfg (lo &&& 0xF0) = none) ↔ unassignedOpcode lo.toNat = true := by
  unfold singleOpcode blockOpcode
  rw [row_of_defaultTables h]
  revert lo
  decide

theorem special_carries {cfg : Config} (h : cfg.defaultTables) (hi : Byte) (range : 0xA0 ≤ hi.toNat ∧ hi.toNat ≤ 0xDF)
    (odd : hi.toNat % 2 = 1) : (specialOf cfg hi).map (cmdValueType cfg) = specialCarries hi.toNat := by
  have type : cmdValueType cfg = cmdValueType profileP0 := by
    funext c; rw [cmdValueType, row_of_defaultTables h, cmdValueType]
  unfold specialOf
  rw [type, row_of_defaultTables h]
  revert hi
  decide

/-- Settles O4: special, reserved and addressed words, by the range of the address byte. -/
theorem illegalWordsAreMalformed : Obligations.IllegalWordsAreMalformed := by
  intro cfg w tables
  have bound := w.isLt
  have hi_nat := highByte_toNat w
  have lo_nat := lowByte_toNat w
  have range : (0xA0 ≤ w.toNat / 256 ∧ w.toNat / 256 ≤ 0xDF) ∨ (0xE0 ≤ w.toNat / 256 ∧ w.toNat / 256 ≤ 0xFD) ∨
      (w.toNat / 256 < 0xA0 ∨ 0xFD < w.toNat / 256) := by omega
  rcases range with special | reserved | addressed
  · rw [fromBytecode_special cfg special, decodeSpecial_malformed_iff, illegalWord_special special, lowBit_eq_odd,
      decide_eq_false_iff_not, hi_nat, lo_nat, Nat.mod_two_not_eq_one]
    refine or_congr_right' fun odd => ?_
    rw [special_carries tables _ (hi_nat ▸ special) (by omega), hi_nat]
  · exact iff_of_true (fromBytecode_reserved cfg reserved) (illegalWord_reserved reserved)
  · obtain ⟨a, decoded⟩ := fromBytecode_addressed cfg addressed
    rw [decoded, decodeAddressed_malformed_iff, illegalWord_addressed addressed, opcode_unassigned_iff tables,
      lowBit_eq_odd, decide_eq_false_iff_not, decide_eq_true_eq, ← BitVec.toNat_inj, hi_nat, lo_nat, Nat.mod_two_not_eq_one]
    rfl

end Sys2Proof
end

section
/-! What the caller gives and what is made of it: the integers on the ports, `address` and the descriptor, the rows and value
contracts of tables under R8, `construct` (40_dali_codec_core R120 to R128, 30_encoding R112). -/

namespace Sys2Proof

/-! ## Integers on the ports -/

theorem value_toInt_of_nonneg {x : Value} (h : 0 ≤ x.toInt) : x.toInt = x.toNat :=
  BitVec.toInt_eq_toNat_of_msb (by rw [BitVec.msb_eq_toInt]; exact decide_eq_false (by omega))

/-- A value that fits a narrower port keeps its number there. -/
theorem setWidth_toNat_of_fits {n : Nat} {x : Value} (h0 : 0 ≤ x.toInt) (h : x.toInt < 2 ^ n) :
    ((x.setWidth n).toNat : Int) = x.toInt := by
  rw [value_toInt_of_nonneg h0] at h ⊢
  rw [BitVec.toNat_setWidth, Nat.mod_eq_of_lt (by exact_mod_cast h)]

theorem setWidth_byte_of_fits {x : Value} (h0 : 0 ≤ x.toInt) (h : x.toInt ≤ 255) : (x.setWidth 8).setWidth 32 = x := by
  have fits := setWidth_toNat_of_fits (n := 8) h0 (by omega)
  rw [value_toInt_of_nonneg h0] at fits
  apply BitVec.eq_of_toNat_eq
  rw [BitVec.toNat_setWidth]
  omega

theorem byte_toInt (b : Byte) : (b.setWidth 32).toInt = b.toNat := by
  have bound := b.isLt
  have msb : (b.setWidth 32).msb = false := by
    rw [BitVec.msb_eq_false_iff_two_mul_lt, BitVec.toNat_setWidth]; omega
  rw [BitVec.toInt_eq_toNat_of_msb msb, BitVec.toNat_setWidth]
  omega

/-! ## `address` -/

theorem addressOf_short {n : Value} (g : Option Value) (h : 0 ≤ n.toInt ∧ n.toInt ≤ 63) :
    addressOf (some n) g = .ok (.short (n.setWidth 6)) := by
  rw [addressOf, if_neg (by omega)]

theorem addressOf_short_error {n : Value} (g : Option Value) (h : n.toInt < 0 ∨ 63 < n.toInt) :
    addressOf (some n) g = .error (.validationError (.valueOutOfRange 0 63)) := by
  rw [addressOf, if_pos h]

theorem addressOf_group {g : Value} (h : 0 ≤ g.toInt ∧ g.toInt ≤ 15) :
    addressOf none (some g) = .ok (.group (g.setWidth 4)) := by
  simp only [addressOf]
  rw [if_neg (by omega)]

theorem addressOf_group_error {g : Value} (h : g.toInt < 0 ∨ 15 < g.toInt) :
    addressOf none (some g) = .error (.validationError (.valueOutOfRange 0 15)) := by
  simp only [addressOf]
  rw [if_pos h]

/-- Settles O11: the two address fields by presence and range, and the code port read back. -/
theorem descriptorsDecode : Obligations.DescriptorsDecode := by
  refine ⟨fun n g h0 h63 => ⟨addressOf_short g ⟨h0, h63⟩, setWidth_toNat_of_fits h0 (by omega)⟩,
    fun n g => addressOf_short_error g,
    fun g h0 h15 => ⟨addressOf_group ⟨h0, h15⟩, setWidth_toNat_of_fits h0 (by omega)⟩,
    fun g => addressOf_group_error, rfl, fun cfg c sh g v h => ?_⟩
  have code := codeOf_codePort h c
  exact ⟨fun a ha => by simp only [decode, Instr.ofDescriptor, code, ha],
    fun e he => by simp only [decode, Instr.ofDescriptor, code, he]⟩

/-! ## The rows under R8 -/

@[simp] theorem number_directArcPower (cfg : Config) : cfg.number .directArcPower = -1 := rfl

theorem number_indirect {cfg : Config} {c : Code} {r : IndirectRow} (h : cfg.row c = .indirect r) :
    cfg.number c = r.opcode.toNat := by
  rw [Config.number, h, CodeRow.number]

theorem number_special {cfg : Config} {c : Code} {r : SpecialRow} (h : cfg.row c = .special r) : cfg.number c = r.code := by
  rw [Config.number, h, CodeRow.number]

theorem cmdValueType_indirect {cfg : Config} {c : Code} {r : IndirectRow} (h : cfg.row c = .indirect r) :
    cmdValueType cfg c = r.cmdType := by
  rw [cmdValueType, h, CodeRow.cmdType]

theorem cmdValueType_special {cfg : Config} {c : Code} {r : SpecialRow} (h : cfg.row c = .special r) :
    cmdValueType cfg c = r.cmdType := by
  rw [cmdValueType, h, CodeRow.cmdType]

theorem isBlock_iff (r : IndirectRow) : r.isBlock = true ↔ r.cmdType = .scene ∨ r.cmdType = .group := by
  simp [IndirectRow.isBlock]

theorem isBlock_of_null {r : IndirectRow} (h : r.cmdType = .null) : r.isBlock = false := by
  simp [IndirectRow.isBlock, h]

/-- What a code is under tables of the shape of R122 and R123, by its row and the value it carries. -/
inductive RowForm (cfg : Config) (c : Code) : Prop
  | level (hc : c = .directArcPower)
  | single (r : IndirectRow) (hr : cfg.row c = .indirect r) (ht : r.cmdType = .null)
  | block (r : IndirectRow) (hr : cfg.row c = .indirect r) (ht : r.cmdType = .scene ∨ r.cmdType = .group)
  | plain (r : SpecialRow) (hr : cfg.row c = .special r) (ht : r.cmdType = .null)
  | data (r : SpecialRow) (hr : cfg.row c = .special r) (ht : r.cmdType = .dataByte ∨ r.cmdType = .random)
  | short (r : SpecialRow) (hr : cfg.row c = .special r) (ht : r.cmdType = .short)

theorem indirect_cmdType {cfg : Config} (h : cfg.wf = true) {c : Code} {r : IndirectRow} (hr : cfg.row c = .indirect r) :
    r.cmdType = .null ∨ r.cmdType = .scene ∨ r.cmdType = .group := by
  have wf := row_wf h c
  simp only [hr, CodeRow.wf, Bool.and_eq_true, Bool.or_eq_true, beq_iff_eq, isBlock_iff] at wf
  obtain ⟨null | ⟨block, -⟩, -⟩ := wf
  · exact .inl null
  · exact .inr block

theorem special_cmdType {cfg : Config} (h : cfg.wf = true) {c : Code} {r : SpecialRow} (hr : cfg.row c = .special r) :
    r.cmdType = .null ∨ (r.cmdType = .dataByte ∨ r.cmdType = .random) ∨ r.cmdType = .short := by
  have wf := row_wf h c
  simp only [hr, CodeRow.wf, Bool.and_eq_true, Bool.or_eq_true, beq_iff_eq] at wf
  obtain ⟨⟨-, types⟩, -⟩ := wf
  simpa only [or_assoc] using types

theorem rowForm {cfg : Config} (h : cfg.wf = true) (c : Code) : RowForm cfg c := by
  cases hr : cfg.row c with
  | level => exact .level (row_level hr)
  | indirect r =>
    rcases indirect_cmdType h hr with null | block
    · exact .single r hr null
    · exact .block r hr block
  | special r =>
    rcases special_cmdType h hr with null | data | short
    · exact .plain r hr null
    · exact .data r hr data
    · exact .short r hr short

theorem not_isSpecial_of_indirect {cfg : Config} {c : Code} {r : IndirectRow} (h : cfg.row c = .indirect r) :
    c.isSpecial = false := by
  rw [← Bool.not_eq_true, isSpecial_iff cfg, h]
  simp

/-- The special codes are those from 256 on (R21). -/
theorem isSpecial_iff_number {cfg : Config} (h : cfg.wf = true) (c : Code) : c.isSpecial = true ↔ 256 ≤ cfg.number c := by
  rw [isSpecial_iff cfg]
  constructor
  · rintro ⟨r, hr⟩
    have range := special_range h hr
    rw [number_special hr]
    omega
  · intro hn
    obtain ⟨r, hr, -⟩ := row_special_of_number hn
    exact ⟨r, hr⟩

theorem normalAddress_indirect {cfg : Config} {c : Code} {r : IndirectRow} (h : cfg.row c = .indirect r)
    (a : Option DALIAddress) : normalAddress c a = some (a.getD .broadcast) := by
  simp [normalAddress, not_isSpecial_of_indirect h]

theorem normalAddress_special {cfg : Config} {c : Code} {r : SpecialRow} (h : cfg.row c = .special r)
    (a : Option DALIAddress) : normalAddress c a = none :=
  if_pos ((isSpecial_iff cfg c).2 ⟨r, h⟩)

/-! ## The value contract -/

/-- Every contract is a range of bytes (R126). -/
theorem valueRange_bounds {cfg : Config} {c : Code} {lo hi : Nat} (h : valueRange cfg c = some (lo, hi)) : lo = 0 ∧ hi ≤ 255 := by
  unfold valueRange at h
  cases ht : cmdValueType cfg c <;> simp only [ht] at h
  case dataByte => split at h <;> cases h <;> simp
  all_goals cases h <;> simp

/-- The rows of R126 that tables under R8 can have. -/
theorem valueRange_eq {cfg : Config} (h : cfg.wf = true) (c : Code) :
    valueRange cfg c = if cmdValueType cfg c = .null then none else some (contractBounds (cmdValueType cfg c) c) := by
  have carried : cmdValueType cfg c ≠ .boolean ∧ cmdValueType cfg c ≠ .dataByteAndFalse := by
    cases rowForm h c with
    | level hc => subst hc; exact ⟨nofun, nofun⟩
    | single r hr ht | plain r hr ht | short r hr ht => simp [cmdValueType, hr, CodeRow.cmdType, ht]
    | block r hr ht | data r hr ht => rcases ht with ht | ht <;> simp [cmdValueType, hr, CodeRow.cmdType, ht]
  unfold valueRange contractBounds
  cases ht : cmdValueType cfg c with
  | boolean => exact absurd ht carried.1
  | dataByteAndFalse => exact absurd ht carried.2
  | dataByte => simp [apply_ite some]
  | null | scene | group | short | random => rfl

theorem valueRange_null {cfg : Config} {c : Code} (h : cmdValueType cfg c = .null) : valueRange cfg c = none := by
  rw [valueRange, h]

theorem valueRange_block {cfg : Config} {c : Code} (h : cmdValueType cfg c = .scene ∨ cmdValueType cfg c = .group) :
    valueRange cfg c = some (0, 15) := by
  rcases h with h | h <;> rw [valueRange, h]

theorem valueRange_short {cfg : Config} {c : Code} (h : cmdValueType cfg c = .short) : valueRange cfg c = some (0, 63) := by
  rw [valueRange, h]

theorem valueRange_data {cfg : Config} {c : Code} {r : SpecialRow} (hr : cfg.row c = .special r)
    (ht : r.cmdType = .dataByte ∨ r.cmdType = .random) : valueRange cfg c = some (0, 255) := by
  have hc : c ≠ .directArcPower := by rintro rfl; cases hr
  rw [← cmdValueType_special hr] at ht
  rcases ht with ht | ht
  · simp only [valueRange, ht, if_neg hc]
  · rw [valueRange, ht]

theorem valueRange_directArcPower (cfg : Config) : valueRange cfg .directArcPower = some (0, 254) := rfl

/-- Settles O10: `construct` by presence and range of the value. -/
theorem constructContract : Obligations.ConstructContract := by
  intro cfg c a h norm bounds
  have range := valueRange_eq h c
  have address : normalAddress c a = norm := if_congr (isSpecial_iff_number h c) rfl rfl
  refine ⟨fun null => ?_, fun carries => ?_⟩
  · rw [if_pos null] at range
    exact ⟨by simp only [construct, range, address], fun v => by simp only [construct, range]⟩
  · have range : valueRange cfg c = some (bounds.1, bounds.2) := range.trans (if_neg carries)
    have le := valueRange_bounds range
    refine ⟨by simp only [construct, range], fun v => ⟨fun out => ?_, fun hlo hhi => ⟨?_, ?_⟩⟩⟩
    · simp only [construct, range]
      exact if_pos out
    · simp only [construct, range, address]
      exact if_neg (by omega)
    · exact setWidth_toNat_of_fits (by omega) (by omega)

/-- What the command made consists of: the code, the address in normal form, the value in a byte that keeps it. -/
theorem construct_ok {cfg : Config} {c : Code} {a : Option DALIAddress} {v : Option Value} {cmd : DALICommand}
    (h : construct cfg c a v = .ok cmd) :
    cmd.code = c ∧ cmd.address = normalAddress c a ∧ cmd.value.map (·.setWidth 32) = v := by
  rcases construct_cases cfg c a v with ⟨-, rfl, ok⟩ | ⟨-, -, error⟩ | ⟨-, -, error⟩ | ⟨lo, hi, x, range, rfl, ok | error⟩
  · cases ok.symm.trans h; exact ⟨rfl, rfl, rfl⟩
  · cases error.symm.trans h
  · cases error.symm.trans h
  · obtain ⟨bounds, ok⟩ := ok
    have le := valueRange_bounds range
    cases ok.symm.trans h
    exact ⟨rfl, rfl, congrArg some (setWidth_byte_of_fits (by omega) (by omega))⟩
  · cases error.2.symm.trans h

/-- A command made from a code that carries no value has none. -/
theorem construct_ok_none {cfg : Config} {c : Code} {a : Option DALIAddress} {v : Option Value} {cmd : DALICommand}
    (range : valueRange cfg c = none) (h : construct cfg c a v = .ok cmd) : cmd = ⟨c, normalAddress c a, none⟩ := by
  cases v with
  | none => simpa [construct, range, eq_comm] using h
  | some x => simp [construct, range] at h

/-- A command made from a code that carries a value has one in the code's range. -/
theorem construct_ok_some {cfg : Config} {c : Code} {a : Option DALIAddress} {v : Option Value} {cmd : DALICommand} {hi : Nat}
    (range : valueRange cfg c = some (0, hi)) (h : construct cfg c a v = .ok cmd) :
    ∃ b : Byte, b.toNat ≤ hi ∧ cmd = ⟨c, normalAddress c a, some b⟩ := by
  have le := valueRange_bounds range
  cases v with
  | none => simp [construct, range] at h
  | some x =>
    simp only [construct, range] at h
    split at h
    next => cases h
    next inside =>
      cases h
      have fits := setWidth_toNat_of_fits (n := 8) (x := x) (by omega) (by omega)
      exact ⟨x.setWidth 8, by omega, rfl⟩

/-- `construct` refuses with a `ValidationError` only (40 R128). -/
theorem construct_error {cfg : Config} {c : Code} {a : Option DALIAddress} {v : Option Value} {e : Error}
    (h : construct cfg c a v = .error e) : ∃ k, e = .validationError k := by
  rcases construct_cases cfg c a v with ⟨-, -, ok⟩ | ⟨-, -, error⟩ | ⟨-, -, error⟩ | ⟨lo, hi, x, -, -, ok | error⟩
  · cases ok.symm.trans h
  · cases error.symm.trans h; exact ⟨_, rfl⟩
  · cases error.symm.trans h; exact ⟨_, rfl⟩
  · cases ok.2.symm.trans h
  · cases error.2.symm.trans h; exact ⟨_, rfl⟩

end Sys2Proof
end

section
/-! The six forms of a valid command, and that a command and its forward word determine each other (40_dali_codec_core R129 to
R139). -/

namespace Sys2Proof

/-! ## The six forms of a command -/

/-- A valid command by the form of its word (40 R129). -/
inductive CommandForm (cfg : Config) : DALICommand → Prop
  | level (a : DALIAddress) (v : Byte) (hv : v.toNat ≤ 254) : CommandForm cfg ⟨.directArcPower, some a, some v⟩
  | single (c : Code) (a : DALIAddress) (r : IndirectRow) (hr : cfg.row c = .indirect r) (ht : r.cmdType = .null) :
    CommandForm cfg ⟨c, some a, none⟩
  | block (c : Code) (a : DALIAddress) (v : Byte) (r : IndirectRow) (hr : cfg.row c = .indirect r)
    (ht : r.cmdType = .scene ∨ r.cmdType = .group) (hv : v.toNat ≤ 15) : CommandForm cfg ⟨c, some a, some v⟩
  | plain (c : Code) (r : SpecialRow) (hr : cfg.row c = .special r) (ht : r.cmdType = .null) : CommandForm cfg ⟨c, none, none⟩
  | data (c : Code) (v : Byte) (r : SpecialRow) (hr : cfg.row c = .special r)
    (ht : r.cmdType = .dataByte ∨ r.cmdType = .random) : CommandForm cfg ⟨c, none, some v⟩
  | short (c : Code) (v : Byte) (r : SpecialRow) (hr : cfg.row c = .special r) (ht : r.cmdType = .short)
    (hv : v.toNat ≤ 63) : CommandForm cfg ⟨c, none, some v⟩

theorem valid_of_none {cfg : Config} {c : Code} {a : Option DALIAddress} (range : valueRange cfg c = none)
    (ha : normalAddress c a = a) : (DALICommand.mk c a none).valid cfg = true := by
  simp [DALICommand.valid, DALICommand.desc, CommandDesc.construct, construct, range, ha]

theorem valid_of_some {cfg : Config} {c : Code} {a : Option DALIAddress} {b : Byte} {hi : Nat}
    (range : valueRange cfg c = some (0, hi)) (ha : normalAddress c a = a) (hb : b.toNat ≤ hi) :
    (DALICommand.mk c a (some b)).valid cfg = true := by
  have fits : ¬(((b.setWidth 32 : Value).toInt < (0 : Nat)) ∨ (hi : Int) < (b.setWidth 32 : Value).toInt) := by
    rw [byte_toInt]; omega
  simp only [DALICommand.valid, DALICommand.desc, CommandDesc.construct, construct, range, ha, Option.map_some, if_neg fits]
  simp

theorem commandForm_of_construct {cfg : Config} (h : cfg.wf = true) {c : Code} {a : Option DALIAddress} {v : Option Value}
    {cmd : DALICommand} (hc : construct cfg c a v = .ok cmd) : CommandForm cfg cmd := by
  cases rowForm h c with
  | level hl =>
    subst hl
    obtain ⟨b, hb, rfl⟩ := construct_ok_some (valueRange_directArcPower cfg) hc
    exact .level _ b hb
  | single r hr ht =>
    rw [construct_ok_none (valueRange_null ((cmdValueType_indirect hr).trans ht)) hc, normalAddress_indirect hr]
    exact .single c _ r hr ht
  | block r hr ht =>
    obtain ⟨b, hb, rfl⟩ := construct_ok_some (valueRange_block (cmdValueType_indirect hr ▸ ht)) hc
    rw [normalAddress_indirect hr]
    exact .block c _ b r hr ht hb
  | plain r hr ht =>
    rw [construct_ok_none (valueRange_null ((cmdValueType_special hr).trans ht)) hc, normalAddress_special hr]
    exact .plain c r hr ht
  | data r hr ht =>
    obtain ⟨b, -, rfl⟩ := construct_ok_some (valueRange_data hr ht) hc
    rw [normalAddress_special hr]
    exact .data c b r hr ht
  | short r hr ht =>
    obtain ⟨b, hb, rfl⟩ := construct_ok_some (valueRange_short ((cmdValueType_special hr).trans ht)) hc
    rw [normalAddress_special hr]
    exact .short c b r hr ht hb

theorem CommandForm.valid {cfg : Config} {c : DALICommand} (h : CommandForm cfg c) : c.valid cfg = true := by
  cases h with
  | level a v hv => exact valid_of_some (valueRange_directArcPower cfg) rfl hv
  | single c a r hr ht =>
    exact valid_of_none (valueRange_null ((cmdValueType_indirect hr).trans ht)) (normalAddress_indirect hr _)
  | block c a v r hr ht hv =>
    exact valid_of_some (valueRange_block (cmdValueType_indirect hr ▸ ht)) (normalAddress_indirect hr _) hv
  | plain c r hr ht =>
    exact valid_of_none (valueRange_null ((cmdValueType_special hr).trans ht)) (normalAddress_special hr _)
  | data c v r hr ht => exact valid_of_some (valueRange_data hr ht) (normalAddress_special hr _) (Nat.le_of_lt_succ v.isLt)
  | short c v r hr ht hv =>
    exact valid_of_some (valueRange_short ((cmdValueType_special hr).trans ht)) (normalAddress_special hr _) hv

/-- The valid commands of a configuration under R8 are those of the six forms. -/
theorem valid_iff_commandForm {cfg : Config} (h : cfg.wf = true) (c : DALICommand) :
    c.valid cfg = true ↔ CommandForm cfg c :=
  ⟨fun hv => commandForm_of_construct h (of_decide_eq_true hv), CommandForm.valid⟩

/-! ## The word of each form -/

section
variable {cfg : Config} {c : Code}

theorem toBytecode_directArcPower (a : DALIAddress) (v : Byte) :
    toBytecode cfg ⟨.directArcPower, some a, some v⟩ = wordOf (addressByte a) v := rfl

theorem toBytecode_single {r : IndirectRow} (hr : cfg.row c = .indirect r) (ht : r.cmdType = .null) (a : DALIAddress)
    (v : Option Byte) : toBytecode cfg ⟨c, some a, v⟩ = wordOf (addressByte a ||| 1) r.opcode := by
  rw [toBytecode_indirect hr, isBlock_of_null ht]
  rfl

theorem toBytecode_block {r : IndirectRow} (hr : cfg.row c = .indirect r) (ht : r.cmdType = .scene ∨ r.cmdType = .group)
    (a : DALIAddress) (v : Byte) :
    toBytecode cfg ⟨c, some a, some v⟩ = wordOf (addressByte a ||| 1) (r.opcode ||| v) := by
  rw [toBytecode_indirect hr, (isBlock_iff r).2 ht]
  rfl

theorem toBytecode_plain {r : SpecialRow} (hr : cfg.row c = .special r) (ht : r.cmdType = .null) (a : Option DALIAddress)
    (v : Option Byte) : toBytecode cfg ⟨c, a, v⟩ = wordOf (specialByte r.code) 0 := by
  rw [toBytecode_special hr, ht, specialLow]

theorem toBytecode_data {r : SpecialRow} (hr : cfg.row c = .special r) (ht : r.cmdType = .dataByte ∨ r.cmdType = .random)
    (a : Option DALIAddress) (v : Byte) : toBytecode cfg ⟨c, a, some v⟩ = wordOf (specialByte r.code) v := by
  rw [toBytecode_special hr]
  rcases ht with ht | ht <;> rw [ht] <;> rfl

theorem toBytecode_short {r : SpecialRow} (hr : cfg.row c = .special r) (ht : r.cmdType = .short)
    (a : Option DALIAddress) (v : Byte) :
    toBytecode cfg ⟨c, a, some v⟩ = wordOf (specialByte r.code) ((v <<< 1) ||| 1) := by
  rw [toBytecode_special hr, ht]
  rfl

end

/-! ## The bits of a word's bytes -/

/-- The selector bit, set in an address byte, adds one (30 R71). -/
theorem addressByte_or_one_toNat (a : DALIAddress) : (addressByte a ||| 1).toNat = (addressByte a).toNat + 1 := by
  have even := addressByte_even a
  generalize addressByte a = b at even ⊢
  revert b
  decide

theorem nibble_mask {v : Byte} (h : v.toNat ≤ 15) : v &&& 0x0F = v := by
  revert v; decide

/-- A base with a zero low nibble and a number in the nibble do not overlap (30 R74). -/
theorem block_disjoint {base v : Byte} (hb : base &&& 0x0F = 0) (hv : v.toNat ≤ 15) : base &&& v = 0 := by
  rw [← nibble_mask hv, BitVec.and_comm v, ← BitVec.and_assoc, hb]
  exact BitVec.zero_and

theorem block_or_toNat {base v : Byte} (hb : base &&& 0x0F = 0) (hv : v.toNat ≤ 15) :
    (base ||| v).toNat = base.toNat + v.toNat := by
  rw [← BitVec.add_eq_or_of_and_eq_zero _ _ (block_disjoint hb hv),
    BitVec.toNat_add_of_and_eq_zero (block_disjoint hb hv)]

theorem nibble_le (b : Byte) : (b &&& 0x0F).toNat ≤ 15 := by
  rw [BitVec.toNat_and]
  exact Nat.and_le_right

theorem byte_le_254 {v : Byte} (h : v ≠ 0xFF) : v.toNat ≤ 254 := by
  have bound := v.isLt
  have ne : v.toNat ≠ 0xFF := fun e => h (BitVec.eq_of_toNat_eq e)
  omega

theorem nibbles_or (b : Byte) : b &&& 0xF0 ||| b &&& 0x0F = b := by
  revert b; decide

theorem block_high {base v : Byte} (hb : base &&& 0x0F = 0) (hv : v.toNat ≤ 15) : (base ||| v) &&& 0xF0 = base := by
  have high : base &&& 0xF0 = base := by
    have split := nibbles_or base
    rw [hb] at split
    exact BitVec.or_zero.symm.trans split
  have low : v &&& 0xF0 = 0 := by revert v; decide
  rw [BitVec.and_or_distrib_right, high, low]
  exact BitVec.or_zero

theorem block_low {base v : Byte} (hb : base &&& 0x0F = 0) (hv : v.toNat ≤ 15) : (base ||| v) &&& 0x0F = v := by
  rw [BitVec.and_or_distrib_right, hb, nibble_mask hv]
  exact BitVec.zero_or

/-- The low byte of a short address (30 R77). -/
theorem shortLow_toNat {v : Byte} (h : v.toNat ≤ 63) : ((v <<< 1) ||| 1).toNat = 2 * v.toNat + 1 := by
  revert v; decide

theorem shortLow_bits {v : Byte} (h : v.toNat ≤ 63) :
    ((v <<< 1) ||| 1).getLsbD 0 = true ∧ ((v <<< 1) ||| 1).getLsbD 7 = false ∧
      (((v <<< 1) ||| 1).extractLsb' 1 6).setWidth 8 = v := by
  revert v; decide

theorem shortLow_of_bits {b : Byte} (h : b.getLsbD 0 = true ∧ b.getLsbD 7 = false) :
    ((b.extractLsb' 1 6).setWidth 8).toNat ≤ 63 ∧ ((b.extractLsb' 1 6).setWidth 8 : Byte) <<< 1 ||| 1 = b := by
  revert b; decide

theorem wordOf_extract_high (hi lo : Byte) : (wordOf hi lo).extractLsb' 8 8 = hi := by
  apply BitVec.eq_of_toNat_eq
  rw [highByte_toNat, wordOf_high]

theorem wordOf_extract_low (hi lo : Byte) : (wordOf hi lo).extractLsb' 0 8 = lo := by
  have bound := lo.isLt
  apply BitVec.eq_of_toNat_eq
  rw [lowByte_toNat, wordOf_toNat]
  omega

theorem wordOf_extract (w : Word) : wordOf (w.extractLsb' 8 8) (w.extractLsb' 0 8) = w :=
  BitVec.extractLsb'_append_extractLsb'

/-- Settles O8, form by form. -/
theorem forwardWordAssembly : Obligations.ForwardWordAssembly := by
  intro cfg c h valid
  cases (valid_iff_commandForm h c).1 valid with
  | level a v _ =>
    simp only [number_directArcPower]
    refine ⟨fun _ => ⟨a, v, rfl, rfl, ?_⟩, by omega, by omega⟩
    rw [toBytecode_directArcPower, wordOf_toNat]
    omega
  | single c a r hr ht =>
    have bound := r.opcode.isLt
    simp only [number_indirect hr, cmdValueType_indirect hr, ht]
    refine ⟨by omega, fun _ _ => ⟨a, rfl, nofun, fun _ => ?_⟩, by omega⟩
    rw [toBytecode_single hr ht, wordOf_toNat, addressByte_or_one_toNat]
    omega
  | block c a v r hr ht hv =>
    have bound := r.opcode.isLt
    have base := block_base h hr ((isBlock_iff r).2 ht)
    simp only [number_indirect hr, cmdValueType_indirect hr]
    refine ⟨by omega, fun _ _ => ⟨a, rfl, fun _ => ⟨v, rfl, ?_⟩, fun hn => absurd ht hn⟩, by omega⟩
    rw [toBytecode_block hr ht, wordOf_toNat, addressByte_or_one_toNat, block_or_toNat base hv]
    omega
  | plain c r hr ht =>
    have range := special_range h hr
    simp only [number_special hr, cmdValueType_special hr, ht]
    refine ⟨by omega, by omega, fun _ => ⟨fun _ => ?_, nofun, nofun⟩⟩
    have zero : (0 : Byte).toNat = 0 := rfl
    rw [toBytecode_plain hr ht, wordOf_toNat, specialByte_toNat range, zero]
    omega
  | data c v r hr ht =>
    have range := special_range h hr
    simp only [number_special hr, cmdValueType_special hr]
    refine ⟨by omega, by omega, fun _ => ⟨fun null => by simp [null] at ht, fun short => by simp [short] at ht,
      fun _ => ⟨v, rfl, ?_⟩⟩⟩
    rw [toBytecode_data hr ht, wordOf_toNat, specialByte_toNat range]
    omega
  | short c v r hr ht hv =>
    have range := special_range h hr
    simp only [number_special hr, cmdValueType_special hr, ht]
    refine ⟨by omega, by omega, fun _ => ⟨nofun, fun _ => ⟨v, rfl, ?_⟩, nofun⟩⟩
    rw [toBytecode_short hr ht, wordOf_toNat, specialByte_toNat range, shortLow_toNat hv]
    omega

/-! ## The word of a command read back -/

theorem addressByte_selected (a : DALIAddress) : (addressByte a ||| 1).getLsbD 0 = true := by simp

/-- An address is read back from its byte, whichever the selector bit (30 R79, 40 R131). -/
theorem wordAddress_addressByte (a : DALIAddress) :
    wordAddress (addressByte a) = some a ∧ wordAddress (addressByte a ||| 1) = some a := by
  cases a with
  | short n => revert n; decide
  | group g => revert g; decide
  | broadcast => decide

/-- The byte an address was read from is the address byte, with the selector bit it had. -/
theorem addressByte_of_wordAddress {hi : Byte} {a : DALIAddress} (h : wordAddress hi = some a) :
    (hi.getLsbD 0 = false → addressByte a = hi) ∧ (hi.getLsbD 0 = true → addressByte a ||| 1 = hi) := by
  have bytes : ∀ hi : Byte, ∀ a ∈ wordAddress hi,
      (hi.getLsbD 0 = false → addressByte a = hi) ∧ (hi.getLsbD 0 = true → addressByte a ||| 1 = hi) := by decide
  exact bytes hi a h

theorem fromBytecode_wordOf_addressed (cfg : Config) {hi : Byte} {a : DALIAddress} (h : wordAddress hi = some a) (lo : Byte) :
    fromBytecode cfg (wordOf hi lo) = decodeAddressed cfg (wordOf hi lo) a hi lo := by
  have addressed : ¬(0xA0 ≤ hi.toNat ∧ hi.toNat ≤ 0xDF) := by
    intro special
    have none := (wordAddress_eq_none_iff hi).2 (by omega)
    cases h.symm.trans none
  simp only [fromBytecode, wordOf_extract_high, wordOf_extract_low, isSpecialByte_iff, h, if_neg addressed]

theorem fromBytecode_wordOf_special (cfg : Config) {n : Nat} (h : 256 ≤ n ∧ n ≤ 287) (lo : Byte) :
    fromBytecode cfg (wordOf (specialByte n) lo) =
      decodeSpecial cfg (wordOf (specialByte n) lo) (specialByte n) lo := by
  have special : 0xA0 ≤ (specialByte n).toNat ∧ (specialByte n).toNat ≤ 0xDF := by rw [specialByte_toNat h]; omega
  simp only [fromBytecode, wordOf_extract_high, wordOf_extract_low, isSpecialByte_iff, if_pos special]

section
variable {cfg : Config} {c : Code} {r : SpecialRow}

/-! What the special half reads, by the type of the value that the command of the address byte carries (40 R135, R136). -/

theorem decodeSpecial_plain (h : cfg.wf = true) (hr : cfg.row c = .special r) (ht : r.cmdType = .null) (w : Word) (lo : Byte) :
    decodeSpecial cfg w (specialByte r.code) lo = if lo = 0 then .ok ⟨c, none, none⟩ else .error (.malformedBytecode w) := by
  rw [decodeSpecial, specialByte_odd (special_range h hr), specialOf_of h hr]
  simp only [cmdValueType_special hr, ht]
  rfl

theorem decodeSpecial_data (h : cfg.wf = true) (hr : cfg.row c = .special r)
    (ht : r.cmdType = .dataByte ∨ r.cmdType = .random) (w : Word) (lo : Byte) :
    decodeSpecial cfg w (specialByte r.code) lo = .ok ⟨c, none, some lo⟩ := by
  rw [decodeSpecial, specialByte_odd (special_range h hr), specialOf_of h hr]
  rcases ht with ht | ht <;> simp only [cmdValueType_special hr, ht] <;> rfl

theorem decodeSpecial_short (h : cfg.wf = true) (hr : cfg.row c = .special r) (ht : r.cmdType = .short) (w : Word) (lo : Byte) :
    decodeSpecial cfg w (specialByte r.code) lo =
      if lo.getLsbD 0 = true ∧ lo.getLsbD 7 = false then .ok ⟨c, none, some ((lo.extractLsb' 1 6).setWidth 8)⟩
      else .error (.malformedBytecode w) := by
  rw [decodeSpecial, specialByte_odd (special_range h hr), specialOf_of h hr]
  simp only [cmdValueType_special hr, ht]
  rfl

end

/-- The word of a command of one of the six forms reads back as the command (40 R138). -/
theorem CommandForm.fromBytecode_toBytecode {cfg : Config} (h : cfg.wf = true) {c : DALICommand} (form : CommandForm cfg c) :
    fromBytecode cfg (toBytecode cfg c) = .ok c := by
  cases form with
  | level a v hv =>
    have level : v ≠ 0xFF := by rintro rfl; exact absurd hv (by decide)
    rw [toBytecode_directArcPower, fromBytecode_wordOf_addressed cfg (wordAddress_addressByte a).1, decodeAddressed,
      if_pos (addressByte_even a), if_neg level]
  | single c a r hr ht =>
    rw [toBytecode_single hr ht, fromBytecode_wordOf_addressed cfg (wordAddress_addressByte a).2, decodeAddressed,
      addressByte_selected, singleOpcode_of h hr (isBlock_of_null ht)]
    rfl
  | block c a v r hr ht hv =>
    have isBlock := (isBlock_iff r).2 ht
    have base := block_base h hr isBlock
    have high := block_high base hv
    have opcode : singleOpcode cfg (r.opcode ||| v) = none :=
      singleOpcode_block h hr isBlock (high.trans (by simpa using (block_high base (v := 0) (by decide)).symm))
    rw [toBytecode_block hr ht, fromBytecode_wordOf_addressed cfg (wordAddress_addressByte a).2, decodeAddressed,
      addressByte_selected, opcode, high, blockOpcode_of h hr isBlock, block_low base hv]
    rfl
  | plain c r hr ht =>
    rw [toBytecode_plain hr ht, fromBytecode_wordOf_special cfg (special_range h hr), decodeSpecial_plain h hr ht, if_pos rfl]
  | data c v r hr ht =>
    rw [toBytecode_data hr ht, fromBytecode_wordOf_special cfg (special_range h hr), decodeSpecial_data h hr ht]
  | short c v r hr ht hv =>
    obtain ⟨bit0, bit7, value⟩ := shortLow_bits hv
    rw [toBytecode_short hr ht, fromBytecode_wordOf_special cfg (special_range h hr), decodeSpecial_short h hr ht,
      if_pos ⟨bit0, bit7⟩, value]

theorem fromBytecode_toBytecode {cfg : Config} (h : cfg.wf = true) {c : DALICommand} (hv : c.valid cfg = true) :
    fromBytecode cfg (toBytecode cfg c) = .ok c :=
  ((valid_iff_commandForm h c).1 hv).fromBytecode_toBytecode h

theorem fromBytecode_toBytecode_of_construct {cfg : Config} (h : cfg.wf = true) {c : Code} {a : Option DALIAddress}
    {v : Option Value} {cmd : DALICommand} (hc : construct cfg c a v = .ok cmd) :
    fromBytecode cfg (toBytecode cfg cmd) = .ok cmd :=
  (commandForm_of_construct h hc).fromBytecode_toBytecode h

/-- Settles O2: two commands of one word are what the word reads back as. -/
theorem constructedCommandRoundTrips : Obligations.ConstructedCommandRoundTrips := by
  intro cfg c a v cmd h hc
  have back := fromBytecode_toBytecode_of_construct h hc
  refine ⟨back, fun c' a' v' cmd' hc' word => ?_⟩
  have back' := fromBytecode_toBytecode_of_construct h hc'
  rw [← word, back] at back'
  exact Except.ok.inj back'

/-! ## The command of a word written again -/

theorem row_of_singleOpcode {cfg : Config} {lo : Byte} {c : Code} (h : singleOpcode cfg lo = some c) :
    ∃ r, cfg.row c = .indirect r ∧ r.isBlock = false ∧ r.opcode = lo := by
  have found := List.find?_some h
  cases hr : cfg.row c with
  | indirect r => exact ⟨r, rfl, by simpa [hr, CodeRow.isSingle] using found⟩
  | level | special => simp [hr, CodeRow.isSingle] at found

theorem row_of_blockOpcode {cfg : Config} {base : Byte} {c : Code} (h : blockOpcode cfg base = some c) :
    ∃ r, cfg.row c = .indirect r ∧ r.isBlock = true ∧ r.opcode = base := by
  have found := List.find?_some h
  cases hr : cfg.row c with
  | indirect r => exact ⟨r, rfl, by simpa [hr, CodeRow.isBlockAt] using found⟩
  | level | special => simp [hr, CodeRow.isBlockAt] at found

theorem row_of_specialOf {cfg : Config} {hi : Byte} {c : Code} (h : specialOf cfg hi = some c) :
    ∃ r, cfg.row c = .special r ∧ specialByte r.code = hi := by
  have found := List.find?_some h
  cases hr : cfg.row c with
  | special r => exact ⟨r, rfl, by simpa [hr, CodeRow.isSpecialAt] using found⟩
  | level | indirect => simp [hr, CodeRow.isSpecialAt] at found

/-- What the addressed half reads is a level, a single opcode or a block command, and its word is the one read. -/
theorem decodeAddressed_ok {cfg : Config} (h : cfg.wf = true) {w : Word} {a : DALIAddress} {hi lo : Byte} {c : DALICommand}
    (address : wordAddress hi = some a) (hd : decodeAddressed cfg w a hi lo = .ok c) :
    CommandForm cfg c ∧ toBytecode cfg c = wordOf hi lo := by
  obtain ⟨clear, set⟩ := addressByte_of_wordAddress address
  unfold decodeAddressed at hd
  split at hd
  next even =>
    split at hd
    next => cases hd
    next level =>
      cases hd
      exact ⟨.level a lo (byte_le_254 level), by rw [toBytecode_directArcPower, clear even]⟩
  next odd =>
    have selected := set (Bool.eq_true_of_not_eq_false odd)
    split at hd
    next c' opcode =>
      cases hd
      obtain ⟨r, hr, hb, rfl⟩ := row_of_singleOpcode opcode
      have ht := (indirect_cmdType h hr).resolve_right (by simp [← isBlock_iff, hb])
      exact ⟨.single c' a r hr ht, by rw [toBytecode_single hr ht, selected]⟩
    next =>
      split at hd
      next c' opcode =>
        cases hd
        obtain ⟨r, hr, hb, base⟩ := row_of_blockOpcode opcode
        have ht := (isBlock_iff r).1 hb
        exact ⟨.block c' a _ r hr ht (nibble_le lo), by rw [toBytecode_block hr ht, selected, base, nibbles_or]⟩
      next => cases hd

/-- What the special half reads is a command of the form its value type gives, and its word is the one read. -/
theorem decodeSpecial_ok {cfg : Config} (h : cfg.wf = true) {w : Word} {hi lo : Byte} {c : DALICommand}
    (hd : decodeSpecial cfg w hi lo = .ok c) : CommandForm cfg c ∧ toBytecode cfg c = wordOf hi lo := by
  cases found : specialOf cfg hi with
  | none => simp [decodeSpecial, found] at hd
  | some c' =>
    obtain ⟨r, hr, rfl⟩ := row_of_specialOf found
    rcases special_cmdType h hr with ht | ht | ht
    · rw [decodeSpecial_plain h hr ht] at hd
      split at hd
      next zero => cases hd; exact ⟨.plain c' r hr ht, by rw [toBytecode_plain hr ht, zero]⟩
      next => cases hd
    · rw [decodeSpecial_data h hr ht] at hd
      cases hd
      exact ⟨.data c' lo r hr ht, toBytecode_data hr ht _ _⟩
    · rw [decodeSpecial_short h hr ht] at hd
      split at hd
      next bits =>
        cases hd
        obtain ⟨bound, low⟩ := shortLow_of_bits bits
        exact ⟨.short c' _ r hr ht bound, by rw [toBytecode_short hr ht, low]⟩
      next => cases hd

/-- A word that is read is the word of the command read, which has one of the six forms (40 R139). -/
theorem fromBytecode_ok {cfg : Config} (h : cfg.wf = true) {w : Word} {c : DALICommand} (hd : fromBytecode cfg w = .ok c) :
    CommandForm cfg c ∧ toBytecode cfg c = w := by
  rw [← wordOf_extract w]
  simp only [fromBytecode] at hd
  split at hd
  next => exact decodeSpecial_ok h hd
  next =>
    split at hd
    next address => exact decodeAddressed_ok h address hd
    next => cases hd

/-- Settles O3. -/
theorem decodedWordReencodes : Obligations.DecodedWordReencodes := by
  intro cfg w c h hd
  obtain ⟨form, word⟩ := fromBytecode_ok h hd
  exact ⟨word, form.valid⟩

/-! ## Every word is read or turned away -/

theorem decodeSpecial_total (cfg : Config) (w : Word) (hi lo : Byte) :
    (∃ c, decodeSpecial cfg w hi lo = .ok c) ∨ decodeSpecial cfg w hi lo = .error (.malformedBytecode w) := by
  unfold decodeSpecial
  split
  next even => exact .inr rfl
  next odd =>
    cases specialOf cfg hi with
    | none => exact .inr rfl
    | some c =>
      cases ht : cmdValueType cfg c with
      | dataByte | random => exact .inl ⟨⟨c, none, some lo⟩, by simp only [ht]⟩
      | null | short =>
        simp only [ht]
        split
        · exact .inl ⟨_, rfl⟩
        · exact .inr rfl
      | group | scene | boolean | dataByteAndFalse => exact .inr (by simp only [ht])

theorem decodeAddressed_total (cfg : Config) (w : Word) (a : DALIAddress) (hi lo : Byte) :
    (∃ c, decodeAddressed cfg w a hi lo = .ok c) ∨ decodeAddressed cfg w a hi lo = .error (.malformedBytecode w) := by
  unfold decodeAddressed
  split
  next level =>
    split
    · exact .inr rfl
    · exact .inl ⟨_, rfl⟩
  next indirect =>
    cases singleOpcode cfg lo with
    | some c => exact .inl ⟨_, rfl⟩
    | none =>
      cases blockOpcode cfg (lo &&& 0xF0) with
      | some c => exact .inl ⟨_, rfl⟩
      | none => exact .inr rfl

/-- Settles O5: special, addressed and reserved words. -/
theorem fromBytecodeIsTotal : Obligations.FromBytecodeIsTotal := by
  refine fun cfg => ⟨fun w => ?_, fun c => ⟨_, rfl⟩⟩
  unfold fromBytecode
  dsimp only
  split
  next => exact decodeSpecial_total cfg w _ _
  next =>
    split
    next a _ => exact decodeAddressed_total cfg w a _ _
    next => exact .inr rfl

end Sys2Proof
end

section
/-! What an instruction is encoded to decodes to it: a command by its word, a request by its record, a response by the frame R316
gives (47_foxtron_responses R305 to R316); and operands that `construct` refuses (40_dali_codec_core R128, 60_exceptions R385). -/

namespace Sys2Proof

/-! ## Commands -/

/-- A command's operands are encoded as a word that decodes to its instruction (40 R138). -/
theorem decode_encodeCommand {cfg : Config} (h : cfg.wf = true) {c : Code} {a : Option DALIAddress} {v : Option Value}
    (hc : commandWf cfg c a v = true) : ∃ e, encodeCommand cfg c a v = some e ∧ decode cfg e = .ok (Instr.ofCode a v c) := by
  have ok := of_decide_eq_true hc
  obtain ⟨-, -, value⟩ := construct_ok ok
  refine ⟨.word (toBytecode cfg ⟨c, a, v.map (·.setWidth 8)⟩), by rw [encodeCommand, ok], ?_⟩
  rw [decode, fromBytecode_toBytecode_of_construct h ok]
  simp only [Instr.ofCommand, DALICommand.desc, value]

/-! ## Response bytes -/

/-- The framing bits of a short address are dropped again (45 R274). -/
theorem shortAnswer_value {n : Byte} (h : n.toNat ≤ 63) : (((n <<< 1) ||| 1) &&& 0x7E) >>> 1 = n := by
  revert n; decide

/-- A response of the code's type is what its byte decodes to (45 R271 to R275). -/
theorem decodeResponse_responseByte {cfg : Config} {c : Code} {r : DALIResponse} (h : responseFits cfg c r = true) :
    decodeResponse cfg (responseByte r) c = .ok r := by
  obtain ⟨value, type⟩ := r
  simp only [responseFits, Bool.and_eq_true, decide_eq_true_eq] at h
  obtain ⟨rfl, fits⟩ := h
  cases ht : respValueType cfg c with
  | boolean =>
    cases value with
    | flag b => cases b <;> simp [decodeResponse, responseByte, ht]
    | number n => simp [ht] at fits
  | dataByteAndFalse =>
    cases value with
    | flag b =>
      obtain rfl : b = false := by simpa [ht] using fits
      simp [decodeResponse, responseByte, ht]
    | number n =>
      have nonzero : n ≠ 0#8 := by simpa [ht] using fits
      simp [decodeResponse, responseByte, ht, nonzero]
  | dataByte | random =>
    cases value with
    | flag b => simp [ht] at fits
    | number n => simp [decodeResponse, responseByte, ht]
  | short =>
    cases value with
    | flag b => simp [ht] at fits
    | number n =>
      simp only [ht, decide_eq_true_eq] at fits
      simp only [decodeResponse, responseByte, ht, shortAnswer_value fits]
  | null | group | scene => cases value <;> simp [ht] at fits

/-! ## Response frames -/

/-- A frame of a payload with its type field passes the checks on a chunk, verified or not (47 R305). -/
theorem frameAccepted_frameOf (cfg : Config) {p : HexString} (h : 2 ≤ p.length) : frameAccepted cfg (frameOf p) = true := by
  have length : 6 ≤ (frameOf p).length := by rw [frameOf_length]; omega
  simp only [frameAccepted, frameOf_head, frameOf_getLast, checksumValid_frameOf, length, decide_true, Bool.and_true,
    Bool.or_true]

/-- A frame of a response type is read by the fields of that type (47 R305). -/
theorem frameDecode_frameOf {cfg : Config} (h : cfg.wf = true) (t : ResponseType) (fields : HexString) :
    frameDecode cfg (frameOf (hex2 (cfg.rspTypeCode t) ++ fields)) =
      decodeFields cfg (frameOf (hex2 (cfg.rspTypeCode t) ++ fields)) t := by
  have accepted := frameAccepted_frameOf cfg (p := hex2 (cfg.rspTypeCode t) ++ fields) (by simp)
  have type : unhex2 (frameOf (hex2 (cfg.rspTypeCode t) ++ fields)) 1 = .ok (cfg.rspTypeCode t) := unhex2_frameOf rfl
  simp only [frameDecode, accepted, type, bind, Except.bind, rspTypeOf_code h]
  rfl

section
variable {cfg : Config} {f : List Byte}

/-! What the fields of a report read as, in any chunk that has them at their places (47 R306 to R311). -/

theorem decodeWithResponse_noForward (length : unhex2 f 3 = .ok 0) : decodeWithResponse cfg f = .ok .noForward := by
  simp only [decodeWithResponse, length]
  rfl

theorem decodeWithResponse_noBackward {w : Word} {c : DALICommand} (length : unhex2 f 3 = .ok 16) (word : unhex4 f 5 = .ok w)
    (command : fromBytecode cfg w = .ok c) (answerLength : unhex2 f 9 = .ok 0) :
    decodeWithResponse cfg f = .ok (.noBackward c) := by
  simp only [decodeWithResponse, length, word, command, answerLength, bind, Except.bind]
  rfl

theorem decodeWithResponse_answered {w : Word} {c : DALICommand} {b : Byte} {r : DALIResponse} (length : unhex2 f 3 = .ok 16)
    (word : unhex4 f 5 = .ok w) (command : fromBytecode cfg w = .ok c) (answerLength : unhex2 f 9 = .ok 8)
    (byte : unhex2 f 11 = .ok b) (answer : decodeResponse cfg b c.code = .ok r) :
    decodeWithResponse cfg f = .ok (.answered c r) := by
  simp only [decodeWithResponse, length, word, command, answerLength, byte, answer, bind, Except.bind]
  rfl

theorem decodeNoResponse_noForward (length : unhex2 f 3 = .ok 0) : decodeNoResponse cfg f = .ok .noForward := by
  simp only [decodeNoResponse, length]
  rfl

theorem decodeNoResponse_forward {w : Word} {c : DALICommand} (length : unhex2 f 3 = .ok 16) (word : unhex4 f 5 = .ok w)
    (command : fromBytecode cfg w = .ok c) : decodeNoResponse cfg f = .ok (.forward c) := by
  simp only [decodeNoResponse, length, word, command, bind, Except.bind]
  rfl

theorem decodeConfResponse_ok {i : Byte} {d : Word} (index : unhex2 f 3 = .ok i) (data : unhex4 f 5 = .ok d) :
    decodeConfResponse f = .ok (.confResponse i d) := by
  simp only [decodeConfResponse, index, data]
  rfl

theorem decodeConfChangeAck_ok {i k : Byte} {d : Word} {flag : AckFlag} (index : unhex2 f 3 = .ok i) (data : unhex4 f 5 = .ok d)
    (code : unhex2 f 9 = .ok k) (found : ackFlagOf cfg k = some flag) :
    decodeConfChangeAck cfg f = .ok (.confChangeAck i d flag) := by
  simp only [decodeConfChangeAck, index, data, code, bind, Except.bind, found]
  rfl

theorem decodeSpecReceived_ok {k : Byte} {m : SpecialMessage} (code : unhex2 f 3 = .ok k) (found : specOf cfg k = some m) :
    decodeSpecReceived cfg f = .ok (.specReceived m) := by
  simp only [decodeSpecReceived, code, bind, Except.bind, found]
  rfl

end

/-- The fields of an answer report are read back from the frame (47 R306, R307). -/
theorem decodeWithResponse_fields {cfg : Config} (h : cfg.wf = true) (t : Byte) {r : AnswerReport} (hr : r.wf cfg = true) :
    decodeWithResponse cfg (frameOf (hex2 t ++ r.fields cfg)) = .ok r := by
  cases r with
  | noForward => exact decodeWithResponse_noForward (unhex2_frameOf rfl)
  | noBackward c =>
    exact decodeWithResponse_noBackward (unhex2_frameOf rfl) (unhex4_frameOf rfl) (fromBytecode_toBytecode h hr)
      (unhex2_frameOf rfl)
  | answered c x =>
    obtain ⟨valid, fits⟩ := Bool.and_eq_true_iff.1 hr
    exact decodeWithResponse_answered (unhex2_frameOf rfl) (unhex4_frameOf rfl) (fromBytecode_toBytecode h valid)
      (unhex2_frameOf rfl) (unhex2_frameOf rfl) (decodeResponse_responseByte fits)

/-- The fields of a forward report are read back from the frame (47 R308, R309). -/
theorem decodeNoResponse_fields {cfg : Config} (h : cfg.wf = true) (t : Byte) {r : ForwardReport} (hr : r.wf cfg = true) :
    decodeNoResponse cfg (frameOf (hex2 t ++ r.fields cfg)) = .ok r := by
  cases r with
  | noForward => exact decodeNoResponse_noForward (unhex2_frameOf rfl)
  | forward c => exact decodeNoResponse_forward (unhex2_frameOf rfl) (unhex4_frameOf rfl) (fromBytecode_toBytecode h hr)

/-- A response frame whose fields read as a response decodes to its instruction. -/
theorem decode_responseFrame {cfg : Config} (h : cfg.wf = true) (t : ResponseType) (r : FoxtronResponse) {fields : HexString}
    (hd : decodeFields cfg (frameOf (hex2 (cfg.rspTypeCode t) ++ fields)) t = .ok r) :
    decode cfg (responseFrame cfg t fields) = .ok (Instr.ofResponse r) := by
  simp only [decode, responseFrame, frameDecode_frameOf h, hd]

/-- Settles O1: a command by its word, a request by its record, a response by its frame. -/
theorem encodeDecodeAgree : Obligations.EncodeDecodeAgree := by
  intro cfg i h hi
  cases i with
  | send | distinctSend | continuousSend | confQuery | confChange | sequenceEnd | firmwareReset => exact ⟨_, rfl, rfl⟩
  | response r =>
    have fields := decodeWithResponse_fields h (cfg.rspTypeCode .response) hi
    exact ⟨_, rfl, decode_responseFrame h .response (.response r) (congrArg (FoxtronResponse.response <$> ·) fields)⟩
  | distinctResponse r =>
    have fields := decodeWithResponse_fields h (cfg.rspTypeCode .distinctResponse) hi
    exact ⟨_, rfl, decode_responseFrame h .distinctResponse (.distinctResponse r)
      (congrArg (FoxtronResponse.distinctResponse <$> ·) fields)⟩
  | noResponse r =>
    have fields := decodeNoResponse_fields h (cfg.rspTypeCode .noResponse) hi
    exact ⟨_, rfl, decode_responseFrame h .noResponse (.noResponse r) (congrArg (FoxtronResponse.noResponse <$> ·) fields)⟩
  | distinctNoResponse r =>
    have fields := decodeNoResponse_fields h (cfg.rspTypeCode .distinctNoResponse) hi
    exact ⟨_, rfl, decode_responseFrame h .distinctNoResponse (.distinctNoResponse r)
      (congrArg (FoxtronResponse.distinctNoResponse <$> ·) fields)⟩
  | confResponse i d =>
    exact ⟨_, rfl, decode_responseFrame h .confResponse (.confResponse i d)
      (decodeConfResponse_ok (unhex2_frameOf rfl) (unhex4_frameOf rfl))⟩
  | confChangeAck i d k =>
    exact ⟨_, rfl, decode_responseFrame h .confChangeAck (.confChangeAck i d k)
      (decodeConfChangeAck_ok (unhex2_frameOf rfl) (unhex4_frameOf rfl) (unhex2_frameOf rfl) (ackFlagOf_code h k))⟩
  | specReceived m =>
    exact ⟨_, rfl, decode_responseFrame h .specReceived (.specReceived m)
      (decodeSpecReceived_ok (unhex2_frameOf rfl) (specOf_code h m))⟩
  | firmwareResetAck => exact ⟨_, rfl, decode_responseFrame h .firmwareResetAck .firmwareResetAck rfl⟩
  | _ a v => exact decode_encodeCommand h hi

namespace Machine

/-! ## Operands that are refused -/

theorem runCommand_error {c : Code} {a : Option DALIAddress} {v : Option Value} {s : State} {e : Error}
    (h : construct s.cfg c a v = .error e) : runCommand c a v s = s.raiseError e := by
  rw [runCommand, h]

theorem runCommandRequest_error {d : CommandDesc} {s : State} {e : Error} (h : d.construct s.cfg = .error e)
    (req : DALICommand → FoxtronRequest) : runCommandRequest d req s = s.raiseError e := by
  rw [runCommandRequest, h]

/-- An instruction whose operands are refused raises the error and does nothing else (60 R385). -/
theorem exec_of_refused_operands {i : Instr} {d : CommandDesc} {s : State} {e : Error} (ho : i.operands = some d)
    (h : d.construct s.cfg = .error e) : exec i s = .next (s.raiseError e) := by
  cases i with
  | send | distinctSend | continuousSend => cases ho; exact congrArg Host.Outcome.next (runCommandRequest_error h _)
  | confQuery | confChange | sequenceEnd | firmwareReset => cases ho
  | response | distinctResponse | noResponse | distinctNoResponse => cases ho
  | confResponse | confChangeAck | specReceived | firmwareResetAck => cases ho
  | _ a v => cases ho; exact congrArg Host.Outcome.next (runCommand_error h)

/-- Settles O39. -/
theorem invalidOperandsRaise : Obligations.InvalidOperandsRaise :=
  fun _ _ _ _ ho h => ⟨construct_error h, exec_of_refused_operands ho h⟩

end Machine

end Sys2Proof
end

section
/-! Sample words of each command family (41_dali_level to 44_dali_special): each is the word of a command in one of the six
forms, so it reads back as that command. -/

namespace Sys2Proof

/-- A table word that is the word of a command decodes to the command's instruction (40 R139). -/
theorem decodeTableWord_of_form {c : DALICommand} {w : Nat} (form : CommandForm profileP0 c)
    (word : toBytecode profileP0 c = BitVec.ofNat 16 w) : decodeTableWord 16 w = some (Instr.ofCommand c) := by
  have back := form.fromBytecode_toBytecode (by decide)
  rw [word] at back
  simp only [decodeTableWord, tableInput, if_true, decode, back]

/-- Settles O9, by the form of each word. -/
theorem sampleWordsDecode : Obligations.SampleWordsDecode :=
  ⟨decodeTableWord_of_form (.level .broadcast 127 (by decide)) rfl,
    decodeTableWord_of_form (.single .off (.short 5) _ rfl rfl) rfl,
    decodeTableWord_of_form (.block .goToScene (.group 2) 9 _ rfl (.inl rfl) (by decide)) rfl,
    decodeTableWord_of_form (.single .reset .broadcast _ rfl rfl) rfl,
    decodeTableWord_of_form (.single .queryStatus (.short 2) _ rfl rfl) rfl,
    decodeTableWord_of_form (.block .querySceneLevel .broadcast 15 _ rfl (.inl rfl) (by decide)) rfl,
    decodeTableWord_of_form (.data .dataTransferRegister 255 _ rfl (.inl rfl)) rfl,
    decodeTableWord_of_form (.short .programShortAddress 5 _ rfl rfl (by decide)) rfl,
    decodeTableWord_of_form (.plain .queryShortAddress _ rfl rfl) rfl⟩

end Sys2Proof
end

section
/-! A command on a usable engine with a free slot: the whole next state by the form of its row (48_master_engine R330 to R334),
and the twelve level commands (41_dali_level R150 to R161). -/

namespace Sys2Proof

/-! ## What `construct` makes of accepted operands -/

section
variable {cfg : Config} {c : Code} {a : Option DALIAddress}

theorem construct_of_no_value (range : valueRange cfg c = none) : construct cfg c a none = .ok ⟨c, normalAddress c a, none⟩ := by
  simp only [construct, range]

theorem construct_of_value {lo hi : Nat} {v : Value} (range : valueRange cfg c = some (lo, hi)) (hlo : lo ≤ v.toInt)
    (hhi : v.toInt ≤ hi) : construct cfg c a (some v) = .ok ⟨c, normalAddress c a, some (v.setWidth 8)⟩ := by
  simp only [construct, range]
  exact if_neg (by omega)

end

namespace Machine

/-- The instruction of a code runs its command, whatever the code (48 R330). -/
theorem exec_ofCode (c : Code) (a : Option DALIAddress) (v : Option Value) (s : State) :
    exec (Instr.ofCode a v c) s = .next (runCommand c a v s) := by
  cases c <;> rfl

section
variable {s : State} {c : Code} {a : Option DALIAddress} (hu : s.eng.usable = true) (hf : s.eng.inflight = none)
include hu hf

/-! ## Accepted by the engine -/

theorem callSendCmd_taking {req : FoxtronRequest} {p : HexString} (hc : req.type.correlated = true)
    (hp : payload s.cfg req = .ok p) : callSendCmd req s = s.taking req (if req.doubled then 2 else 1) p := by
  simp [callSendCmd, sendCmd_taken hu hc hf (frameEncode_of_payload hp), register, State.taking, State.newCompletion,
    State.setInflight, State.tx, State.giveBack, State.emit]

theorem callSendCmd_bareRequest (cmd : DALICommand) :
    callSendCmd (bareRequest cmd) s = s.takingBare cmd (toBytecode s.cfg cmd) :=
  callSendCmd_taking hu hf (bareRequest_correlated cmd) rfl

theorem exec_ofCode_of_construct {v : Option Value} {cmd : DALICommand} (h : construct s.cfg c a v = .ok cmd) :
    exec (Instr.ofCode a v c) s = .next (s.takingBare cmd (toBytecode s.cfg cmd)) := by
  rw [exec_ofCode, runCommand, h]
  exact congrArg Host.Outcome.next (callSendCmd_bareRequest hu hf cmd)

/-! ## By the form of the row -/

/-- `DirectArcPower` sends its level behind the plain address byte (41 R150). -/
theorem exec_level {v : Value} (h0 : 0 ≤ v.toInt) (h254 : v.toInt ≤ 254) :
    exec (.directArcPower a (some v)) s = .next (s.takingBare ⟨.directArcPower, some (a.getD .broadcast), some (v.setWidth 8)⟩
      (wordOf (addressByte (a.getD .broadcast)) (v.setWidth 8))) :=
  exec_ofCode_of_construct hu hf (construct_of_value (valueRange_directArcPower s.cfg) h0 h254)

/-- An indirect command without a value sends its opcode (30 R73). -/
theorem exec_single {opcode : Byte} {resp : ValueType} (hr : s.cfg.row c = .indirect ⟨opcode, .null, resp⟩) :
    exec (Instr.ofCode a none c) s = .next (s.takingInd c a opcode) := by
  have made := construct_of_no_value (a := a) (valueRange_null (cmdValueType_indirect hr))
  rw [normalAddress_indirect hr] at made
  rw [exec_ofCode_of_construct hu hf made, toBytecode_single hr rfl]
  rfl

/-- A block command sends its base opcode with the number in the low nibble (30 R74). -/
theorem exec_block {base : Byte} {type resp : ValueType} {n : Value} (hr : s.cfg.row c = .indirect ⟨base, type, resp⟩)
    (ht : type = .scene ∨ type = .group) (h0 : 0 ≤ n.toInt) (h15 : n.toInt ≤ 15) :
    exec (Instr.ofCode a (some n) c) s = .next (s.takingBlock c a base (n.setWidth 8)) := by
  have range := valueRange_block (cfg := s.cfg) (c := c) (by rwa [cmdValueType_indirect hr])
  have made := construct_of_value (a := a) range h0 h15
  rw [normalAddress_indirect hr] at made
  rw [exec_ofCode_of_construct hu hf made, toBytecode_block hr ht]
  rfl

end

/-! ## The level commands -/

/-- Settles O31: the level, ten rows without a value and one block row of the default tables. -/
theorem levelCommandsTransmit : Obligations.LevelCommandsTransmit := by
  intro s a tables hu hf
  have single (c : Code) {opcode : Byte} (hr : c.defaultRow = .indirect ⟨opcode, .null, .null⟩) :
      exec (Instr.ofCode a none c) s = .next (s.takingInd c a opcode) := exec_single hu hf ((tables c).trans hr)
  exact ⟨fun _ => exec_level hu hf, single .off rfl, single .up rfl, single .down rfl, single .stepUp rfl,
    single .stepDown rfl, single .recallMaxLevel rfl, single .recallMinLevel rfl, single .stepDownAndOff rfl,
    single .onAndStepUp rfl, single .enableDAPCSequence rfl,
    fun _ => exec_block (c := .goToScene) hu hf (tables .goToScene) (.inl rfl)⟩

end Machine

end Sys2Proof
end

section
/-! The fourteen configuration commands on a usable engine with a free slot (42_dali_config R170 to R183). -/

namespace Sys2Proof.Machine

/-- Settles O32: ten rows without a value, two scene rows and two group rows of the default tables. -/
theorem configurationCommandsTransmit : Obligations.ConfigurationCommandsTransmit := by
  intro s a tables hu hf
  have single (c : Code) {opcode : Byte} (hr : c.defaultRow = .indirect ⟨opcode, .null, .null⟩) :
      exec (Instr.ofCode a none c) s = .next (s.takingInd c a opcode) := exec_single hu hf ((tables c).trans hr)
  have block (c : Code) {base : Byte} {type : ValueType} (hr : c.defaultRow = .indirect ⟨base, type, .null⟩)
      (ht : type = .scene ∨ type = .group) (n : Value) : 0 ≤ n.toInt → n.toInt ≤ 15 →
      exec (Instr.ofCode a (some n) c) s = .next (s.takingBlock c a base (n.setWidth 8)) :=
    exec_block hu hf ((tables c).trans hr) ht
  exact ⟨single .reset rfl, single .storeActualLevelInDTR rfl, single .storeDTRAsMaxLevel rfl, single .storeDTRAsMinLevel rfl,
    single .storeDTRAsSystemFailureLevel rfl, single .storeDTRAsPowerOnLevel rfl, single .storeDTRAsFadeTime rfl,
    single .storeDTRAsFadeRate rfl, block .storeDTRasScene rfl (.inl rfl), block .removeScene rfl (.inl rfl),
    block .addToGroup rfl (.inr rfl), block .removeFromGroup rfl (.inr rfl), single .storeDTRAsShortAddress rfl,
    single .enableWriteMemory rfl⟩

end Sys2Proof.Machine
end

section
/-! The twenty-eight queries on a usable engine with a free slot (43_dali_queries R200 to R227). -/

namespace Sys2Proof.Machine

/-- Settles O33: twenty-seven rows without a value, of any response type, and one scene row of the default tables. -/
theorem queryCommandsTransmit : Obligations.QueryCommandsTransmit := by
  intro s a tables hu hf
  have single (c : Code) {opcode : Byte} {resp : ValueType} (hr : c.defaultRow = .indirect ⟨opcode, .null, resp⟩) :
      exec (Instr.ofCode a none c) s = .next (s.takingInd c a opcode) := exec_single hu hf ((tables c).trans hr)
  exact ⟨single .queryStatus rfl, single .queryControlGear rfl, single .queryLampFailure rfl, single .queryLampPowerOn rfl,
    single .queryLimitError rfl, single .queryResetState rfl, single .queryMissingShortAddress rfl,
    single .queryVersionNumber rfl, single .queryContentDTR rfl, single .queryDeviceType rfl, single .queryPhysicalMinimum rfl,
    single .queryPowerFailure rfl, single .queryContentDTR1 rfl, single .queryContentDTR2 rfl, single .queryActualLevel rfl,
    single .queryMaxLevel rfl, single .queryMinLevel rfl, single .queryPowerOnLevel rfl, single .querySystemFailureLevel rfl,
    single .queryFadeTimeRate rfl, fun _ => exec_block (c := .querySceneLevel) hu hf (tables .querySceneLevel) (.inl rfl),
    single .queryGroups0to7 rfl, single .queryGroups8to15 rfl, single .queryRandomAddressH rfl,
    single .queryRandomAddressM rfl, single .queryRandomAddressL rfl, single .readMemoryLocation rfl,
    single .extendedVersionNumber rfl⟩

end Sys2Proof.Machine
end

section
/-! The eighteen special commands on a usable engine with a free slot (44_dali_special R240 to R257), by the form of their row: an
address given is dropped (40_dali_codec_core R127), and the code gives the address byte (30_encoding R71). -/

namespace Sys2Proof.Machine

section
variable {s : State} {c : Code} {r : SpecialRow} (hu : s.eng.usable = true) (hf : s.eng.inflight = none)
  (hr : s.cfg.row c = .special r)
include hu hf hr

/-- A special command without a value sends a zero low byte (30 R75). -/
theorem exec_plain (ht : r.cmdType = .null) (a : Option DALIAddress) :
    exec (Instr.ofCode a none c) s = .next (s.takingSpecial c (specialByte r.code)) := by
  have made := construct_of_no_value (a := a) (valueRange_null ((cmdValueType_special hr).trans ht))
  rw [normalAddress_special hr] at made
  rw [exec_ofCode_of_construct hu hf made, toBytecode_plain hr ht]
  rfl

/-- A special command with a data byte sends it as the low byte (30 R76). -/
theorem exec_data (ht : r.cmdType = .dataByte ∨ r.cmdType = .random) (a : Option DALIAddress) {v : Value} (h0 : 0 ≤ v.toInt)
    (h255 : v.toInt ≤ 255) :
    exec (Instr.ofCode a (some v) c) s = .next (s.takingData c (specialByte r.code) (v.setWidth 8)) := by
  have made := construct_of_value (a := a) (valueRange_data hr ht) h0 h255
  rw [normalAddress_special hr] at made
  rw [exec_ofCode_of_construct hu hf made, toBytecode_data hr ht]
  rfl

/-- A special command with a short address sends it shifted left by one, with bit 0 set (30 R77). -/
theorem exec_short (ht : r.cmdType = .short) (a : Option DALIAddress) {v : Value} (h0 : 0 ≤ v.toInt) (h63 : v.toInt ≤ 63) :
    exec (Instr.ofCode a (some v) c) s = .next (s.takingShort c (specialByte r.code) (v.setWidth 8)) := by
  have made := construct_of_value (a := a) (valueRange_short ((cmdValueType_special hr).trans ht)) h0 h63
  rw [normalAddress_special hr] at made
  rw [exec_ofCode_of_construct hu hf made, toBytecode_short hr ht]
  rfl

end

/-- Settles O34: seven rows without a value, nine with a data byte and two with a short address of the default tables. -/
theorem specialCommandsTransmit : Obligations.SpecialCommandsTransmit := by
  intro s a tables hu hf
  have plain (c : Code) {code : Nat} {resp : ValueType} {hi : Byte} (hr : c.defaultRow = .special ⟨code, .null, resp⟩)
      (hb : specialByte code = hi) : exec (Instr.ofCode a none c) s = .next (s.takingSpecial c hi) :=
    hb ▸ exec_plain hu hf ((tables c).trans hr) rfl a
  have data (c : Code) {code : Nat} {type resp : ValueType} {hi : Byte} (hr : c.defaultRow = .special ⟨code, type, resp⟩)
      (ht : type = .dataByte ∨ type = .random) (hb : specialByte code = hi) (v : Value) : 0 ≤ v.toInt → v.toInt ≤ 255 →
      exec (Instr.ofCode a (some v) c) s = .next (s.takingData c hi (v.setWidth 8)) :=
    hb ▸ exec_data hu hf ((tables c).trans hr) ht a
  have short (c : Code) {code : Nat} {resp : ValueType} {hi : Byte} (hr : c.defaultRow = .special ⟨code, .short, resp⟩)
      (hb : specialByte code = hi) (v : Value) : 0 ≤ v.toInt → v.toInt ≤ 63 →
      exec (Instr.ofCode a (some v) c) s = .next (s.takingShort c hi (v.setWidth 8)) :=
    hb ▸ exec_short hu hf ((tables c).trans hr) rfl a
  exact ⟨plain .terminate rfl rfl, data .dataTransferRegister rfl (.inl rfl) rfl, data .initialise rfl (.inl rfl) rfl,
    plain .randomize rfl rfl, plain .compare rfl rfl, plain .withdraw rfl rfl, plain .ping rfl rfl,
    data .searchAddressH rfl (.inr rfl) rfl, data .searchAddressM rfl (.inr rfl) rfl, data .searchAddressL rfl (.inr rfl) rfl,
    short .programShortAddress rfl rfl, short .verifyShortAddress rfl rfl, plain .queryShortAddress rfl rfl,
    plain .physicalSelection rfl rfl, data .enableDeviceOfType rfl (.inl rfl) rfl, data .setDTR1 rfl (.inl rfl) rfl,
    data .setDTR2 rfl (.inl rfl) rfl, data .writeMemoryLocation rfl (.inl rfl) rfl⟩

end Sys2Proof.Machine
end

section
/-! What a response byte is read as, by the response value type of the command it answers (45_response_decoder R270 to R277), and
which commands of the default tables have each type. -/

namespace Sys2Proof

/-! ## The response value types of the tables -/

/-- Tables of the shape of R122 and R123 give no response the type of a scene or a group (40 R125). -/
theorem respValueType_ok {cfg : Config} (h : cfg.wf = true) (c : Code) : respTypeOk (respValueType cfg c) = true := by
  have wf := row_wf h c
  unfold respValueType
  cases hr : cfg.row c with
  | level => rfl
  | indirect r | special r =>
    simp only [hr, CodeRow.wf, Bool.and_eq_true] at wf
    exact wf.2

theorem respValueType_of_defaultTables {cfg : Config} (h : cfg.defaultTables) (c : Code) :
    respValueType cfg c = c.defaultRow.respType := by
  rw [respValueType, h c]

theorem number_of_defaultTables {cfg : Config} (h : cfg.defaultTables) (c : Code) : cfg.number c = c.defaultRow.number := by
  rw [Config.number, h c]

/-- The codes with a response value type in the default tables, in the order of R121. -/
def codesAnswering (t : ValueType) : List Code := Code.all.filter fun c => c.defaultRow.respType = t

theorem mem_codesAnswering {cfg : Config} (h : cfg.defaultTables) (c : Code) (t : ValueType) :
    c ∈ codesAnswering t ↔ respValueType cfg c = t := by
  simp [codesAnswering, respValueType_of_defaultTables h]

/-! ## The response byte -/

/-- The number of a short answer is bits 6:1 of its byte (45 R274). -/
theorem shortAnswer_bits (b : Byte) : (b &&& 0x7E) >>> 1 = (b.extractLsb' 1 6).setWidth 8 := by
  revert b; decide

/-- A byte that answers a command is unexpected exactly when no answer is (45 R276); the types of R277 do not arise. -/
theorem decodeResponse_unexpected_iff {cfg : Config} {c : Code} (ok : respTypeOk (respValueType cfg c) = true) (b : Byte) :
    decodeResponse cfg b c = .error .unexpectedResponse ↔ respValueType cfg c = .null := by
  unfold decodeResponse
  cases ht : respValueType cfg c with
  | boolean | dataByte | random | short | dataByteAndFalse => exact iff_of_false nofun nofun
  | null => exact iff_of_true rfl rfl
  | group | scene => simp [ht, respTypeOk] at ok

/-- Settles O16: the lists are the rows of the default tables with each type, and the answers are the arms of the decoder. -/
theorem answersDecodeByResponseType : Obligations.AnswersDecodeByResponseType := by
  intro cfg b c
  refine ⟨fun tables => ⟨mem_codesAnswering tables c .boolean, mem_codesAnswering tables c .dataByte,
    mem_codesAnswering tables c .random, List.mem_singleton.symm.trans (mem_codesAnswering tables c .short),
    mem_codesAnswering tables c .dataByteAndFalse⟩, ?_, ?_, ?_, ?_, ?_, ?_⟩
  · intro boolean; rw [decodeResponse, boolean]
  · intro dataByte; rw [decodeResponse, dataByte]
  · intro random; rw [decodeResponse, random]
  · intro short; rw [decodeResponse, short, shortAnswer_bits]
  · intro dataByteAndFalse zero; rw [decodeResponse, dataByteAndFalse, if_pos zero]
  · intro dataByteAndFalse nonzero; rw [decodeResponse, dataByteAndFalse, if_neg nonzero]

/-! ## The commands that expect no answer -/

theorem defaultRow_respTypeOk (c : Code) : respTypeOk c.defaultRow.respType = true := by
  cases c <;> rfl

/-- The indirect commands that expect no answer are the opcodes 0 to 129 of the default table (45 R276). -/
theorem indirect_null_iff {c : Code} {r : IndirectRow} (hr : c.defaultRow = .indirect r) :
    r.respType = .null ↔ r.opcode.toNat ≤ 129 := by
  cases c <;> cases hr <;> decide

/-- Four special commands of the default table expect an answer (45 R276). -/
theorem special_null_iff {c : Code} {r : SpecialRow} (hr : c.defaultRow = .special r) :
    r.respType = .null ↔ c ≠ .compare ∧ c ≠ .verifyShortAddress ∧ c ≠ .queryShortAddress ∧ c ≠ .writeMemoryLocation := by
  cases c <;> cases hr <;> decide

theorem defaultRow_special_code {c : Code} {r : SpecialRow} (hr : c.defaultRow = .special r) : 256 ≤ r.code := by
  cases c <;> cases hr <;> decide

theorem defaultRow_null_iff (c : Code) :
    c.defaultRow.respType = .null ↔ c.defaultRow.number ≤ 129 ∨ (256 ≤ c.defaultRow.number ∧
      c ≠ .compare ∧ c ≠ .verifyShortAddress ∧ c ≠ .queryShortAddress ∧ c ≠ .writeMemoryLocation) := by
  cases hr : c.defaultRow with
  | level => exact iff_of_true rfl (.inl (by decide))
  | indirect r =>
    have bound := r.opcode.isLt
    simp only [CodeRow.respType, CodeRow.number, indirect_null_iff hr]
    omega
  | special r =>
    have code := defaultRow_special_code hr
    have high : 256 ≤ (r.code : Int) := by omega
    have not_low : ¬ (r.code : Int) ≤ 129 := by omega
    rw [CodeRow.respType, CodeRow.number, special_null_iff hr, or_iff_right not_low, and_iff_right high]

/-- Settles O17: R276 by response type, then by the number of the code in the default tables. -/
theorem nullContractAnswersRaise : Obligations.NullContractAnswersRaise := by
  intro cfg b c
  refine ⟨fun wf => decodeResponse_unexpected_iff (respValueType_ok wf c) b, fun tables => ?_⟩
  have type := respValueType_of_defaultTables tables c
  rw [decodeResponse_unexpected_iff (type ▸ defaultRow_respTypeOk c), type, number_of_defaultTables tables,
    defaultRow_null_iff]

end Sys2Proof
end

section
/-! Every frame the encoder gives is well framed (46_foxtron_requests R285, R292; 95 V124). -/

namespace Sys2Proof

/-! ## The length of a payload -/

theorem ConfHex.digits_length (x : ConfHex) : x.digits.length = 2 ∨ x.digits.length = 4 := by
  cases x with
  | two b => exact .inl rfl
  | four w => exact .inr rfl

theorem wordFields_length (cfg : Config) (p : Option Value) (c : DALICommand) : (wordFields cfg p c).length = 8 := rfl

/-- A payload is whole bytes, the type field at least: the layouts of R286 to R291 one by one. -/
theorem payload_length {cfg : Config} {req : FoxtronRequest} {p : HexString} (h : payload cfg req = .ok p) :
    2 ≤ p.length ∧ p.length % 2 = 0 := by
  cases req with
  | send | distinctSend | continuousSend | confQuery | sequenceEnd => cases h; simp [wordFields_length]
  | confChange i d ds =>
    cases h
    have data := (cfg.confDataHex i d).digits_length
    simp only [List.length_append, hex2_length]
    omega
  | firmwareReset ds => cases h

/-! ## Well-framed bytes -/

/-- Between its delimiters a frame holds the characters of its payload and its checksum. -/
theorem frameOf_between (p : HexString) : ((frameOf p).drop 1).dropLast = (p ++ checksum p).map hexChar := by
  rw [frameOf, List.drop_succ_cons, List.drop_zero, List.dropLast_concat]

theorem hexChar_isHex (ds : HexString) : ((ds.map hexChar).all fun c => (hexDigit c).isSome) = true := by
  simp

theorem wellFramed_frameOf {p : HexString} (nonempty : 2 ≤ p.length) (even : p.length % 2 = 0) :
    wellFramed (frameOf p) = true := by
  have head : (frameOf p).head? = some soh := rfl
  have length : 6 ≤ (frameOf p).length ∧ (frameOf p).length % 2 = 0 := by rw [frameOf_length]; omega
  have hex : (((frameOf p).drop 1).dropLast.all fun c => (hexDigit c).isSome) = true := by
    rw [frameOf_between, hexChar_isHex]
  simp only [wellFramed, head, frameOf_getLast, length, hex, checksumValid_frameOf, decide_true, Bool.and_self]

theorem wellFramed_of_payload {cfg : Config} {req : FoxtronRequest} {p : HexString} (h : payload cfg req = .ok p) :
    wellFramed (frameOf p) = true := by
  obtain ⟨nonempty, even⟩ := payload_length h
  exact wellFramed_frameOf nonempty even

/-- Settles O15, by the two answers of the encoder. -/
theorem encodedFramesAreWellFramed : Obligations.EncodedFramesAreWellFramed := by
  intro cfg req
  rcases Machine.frameEncode_cases cfg req with ⟨p, hp, encoded, other⟩ | ⟨forbidden, reset⟩
  · exact ⟨fun reset => absurd reset other, fun _ => ⟨_, encoded, wellFramed_of_payload hp⟩⟩
  · exact ⟨fun _ => forbidden, absurd reset⟩

end Sys2Proof
end

section
/-! A plain `Send` on a usable engine: it transmits and its completion fires in the same step (46_foxtron_requests R286,
48_master_engine R333). -/

namespace Sys2Proof.Machine

theorem runCommandRequest_ok {d : CommandDesc} {c : DALICommand} {s : State} (h : d.construct s.cfg = .ok c)
    (req : DALICommand → FoxtronRequest) : runCommandRequest d req s = callSendCmd (req c) s := by
  rw [runCommandRequest, h]

/-- An uncorrelated request leaves the engine state alone: no slot, no sequencer (48 R333). -/
theorem callSendCmd_plain {s : State} {req : FoxtronRequest} {p : HexString} (hu : s.eng.usable = true)
    (hc : req.type.correlated = false) (hp : payload s.cfg req = .ok p) :
    callSendCmd req s = { s with
      nextCompletion := s.nextCompletion + 1
      outputs := s.outputs ++ [.tx (frameOf p), .resolve s.nextCompletion .nothing, .returned s.nextCompletion] } := by
  simp [callSendCmd, sendCmd_plain hu hc (frameEncode_of_payload hp), State.newCompletion, State.emit]

theorem payload_send {cfg : Config} (h : cfg.wf = true) (c : DALICommand) (p : Option Value) :
    payload cfg (.send c p) = .ok (hex2 0x01 ++ hex2 (priorityByte p) ++ hex2 0x10 ++ hex4 (toBytecode cfg c)) := by
  simp only [payload, wordFields, reqTypeCode_send h, List.append_assoc]

/-- Settles O35. -/
theorem plainSendFiresAtOnce : Obligations.PlainSendFiresAtOnce := by
  intro s d p c hwf hu made
  calc exec (.send d p) s
      = .next (runCommandRequest d (fun c => .send c p) s) := rfl
    _ = .next (callSendCmd (.send c p) s) := by rw [runCommandRequest_ok made]
    _ = _ := by rw [callSendCmd_plain hu rfl (payload_send hwf c p)]

end Sys2Proof.Machine
end

section
/-! Everything transmitted is well framed (46_foxtron_requests R285, 60_exceptions R395): what keeps it, operation by operation,
and that every step does. A frame reaches the transport from `sendCmd` only. -/

namespace Sys2Proof.Machine

/-! ## Rules of the invariant -/

/-- The invariant reads the outputs only. -/
theorem State.FramesSound.of_outputs {s t : State} (h : s.FramesSound) (same : t.outputs = s.outputs) : t.FramesSound := by
  rw [State.FramesSound, same]
  exact h

theorem State.FramesSound.newCompletion {s : State} (h : s.FramesSound) : s.newCompletion.FramesSound := h.of_outputs rfl

theorem State.FramesSound.setInflight {s : State} (h : s.FramesSound) (f : Option InFlight) : (s.setInflight f).FramesSound :=
  h.of_outputs rfl

theorem State.FramesSound.setSeq {s : State} (h : s.FramesSound) (q : Option Sequencer) : (s.setSeq q).FramesSound :=
  h.of_outputs rfl

theorem State.FramesSound.register {s : State} (h : s.FramesSound) (req : FoxtronRequest) : (register req s).FramesSound :=
  h.of_outputs rfl

theorem transmitted_append (os os' : List Output) : transmitted (os ++ os') = transmitted os ++ transmitted os' :=
  List.filterMap_append

/-- A strobe of any port but the transport's `send` keeps the invariant. -/
theorem State.FramesSound.emit {s : State} (h : s.FramesSound) (o : Output) (silent : transmitted [o] = [] := by rfl) :
    (s.emit o).FramesSound := by
  rw [State.FramesSound, State.emit_outputs, transmitted_append, silent, List.append_nil]
  exact h

theorem State.FramesSound.tx {s : State} (h : s.FramesSound) {f : List Byte} (hf : wellFramed f = true) :
    (s.tx f).FramesSound := by
  rw [State.FramesSound, State.tx_eq, State.emit_outputs, transmitted_append]
  intro g hg
  rcases List.mem_append.1 hg with old | new
  · exact h g old
  · rw [List.mem_singleton.1 new]
    exact hf

theorem Output.quiet.silent {o : Output} (h : o.quiet) : transmitted [o] = [] := by
  cases o with
  | tx f => exact h.elim
  | _ => rfl

/-! ## `sendCmd` -/

theorem callSendCmd_framesSound {s : State} (h : s.FramesSound) (req : FoxtronRequest) : (callSendCmd req s).FramesSound := by
  rcases callSendCmd_cases req s with
    ⟨-, e⟩ | ⟨-, -, -, e⟩ | ⟨-, -, -, p, hp, e⟩ | ⟨-, -, -, e⟩ | ⟨-, -, p, hp, e⟩ <;> rw [e]
  · exact (h.newCompletion.emit _).emit _
  · exact h.emit _
  · exact ((h.register req).tx (wellFramed_of_payload hp)).emit _
  · exact (h.register req).emit _
  · exact ((h.tx (wellFramed_of_payload hp)).newCompletion.emit _).emit _

/-! ## The sequencer -/

theorem seqAdvance_framesSound {s : State} (h : s.FramesSound) (p : SeqPhase) (r : FoxtronResponse) :
    (seqAdvance p r s).FramesSound := by
  cases hq : s.eng.seq with
  | none => rw [seqAdvance_idle hq]; exact h
  | some q => rw [seqAdvance_active hq]; exact h.setSeq _

theorem seqFinish_framesSound {s : State} (h : s.FramesSound) : (seqFinish s).FramesSound := by
  cases hq : s.eng.seq with
  | none => rw [seqFinish_idle hq]; exact h
  | some q => rw [seqFinish_active hq]; exact (h.setSeq none).emit _

/-- The sequencer's commands are bare commands. -/
theorem wellFramed_bare (cfg : Config) (c : DALICommand) : wellFramed (frameOf (barePayload cfg (toBytecode cfg c))) = true :=
  wellFramed_of_payload (cfg := cfg) (req := bareRequest c) rfl

/-- An issued command keeps the invariant if its continuation does. -/
theorem seqIssue_framesSound {next : FoxtronResponse → State → State}
    (hnext : ∀ r {u : State}, u.FramesSound → (next r u).FramesSound) {s : State} (h : s.FramesSound) :
    (seqIssue next s).FramesSound := by
  cases hq : s.eng.seq with
  | none => rw [seqIssue_idle next hq]; exact h
  | some q =>
    cases hu : s.eng.usable with
    | false =>
      rw [seqIssue_unusable next hu hq]
      exact hnext _ (h.newCompletion.emit _)
    | true =>
      cases hf : s.eng.inflight with
      | none => rw [seqIssue_taken next hu hf hq]; exact (h.register _).tx (wellFramed_bare _ _)
      | some f => rw [seqIssue_busy next hu hf hq]; exact (h.setSeq none).emit _

theorem seqContinueL_framesSound (r : FoxtronResponse) {s : State} (h : s.FramesSound) : (seqContinueL r s).FramesSound :=
  seqFinish_framesSound (seqAdvance_framesSound h .l r)

theorem seqContinueM_framesSound (r : FoxtronResponse) {s : State} (h : s.FramesSound) : (seqContinueM r s).FramesSound :=
  seqIssue_framesSound seqContinueL_framesSound (seqAdvance_framesSound h .l r)

theorem seqContinueH_framesSound (r : FoxtronResponse) {s : State} (h : s.FramesSound) : (seqContinueH r s).FramesSound :=
  seqIssue_framesSound seqContinueM_framesSound (seqAdvance_framesSound h .m r)

theorem seqContinue_framesSound (r : FoxtronResponse) {s : State} (h : s.FramesSound) : (seqContinue r s).FramesSound := by
  rcases seqContinue_cases r s with ⟨-, e⟩ | ⟨q, -, -, e⟩ | ⟨q, -, -, e⟩ | ⟨q, -, -, e⟩ <;> rw [e]
  · exact h
  · exact seqContinueH_framesSound r h
  · exact seqContinueM_framesSound r h
  · exact seqContinueL_framesSound r h

theorem setSearchAddress_framesSound (v : BitVec 24) {s : State} (h : s.FramesSound) : (setSearchAddress v s).FramesSound := by
  cases hq : s.eng.seq with
  | some q => rw [setSearchAddress_active hq]; exact h.emit _
  | none =>
    have started : (s.startSearch v).FramesSound := h.newCompletion.setSeq _
    rw [setSearchAddress_idle hq]
    exact (seqIssue_framesSound seqContinueH_framesSound started).emit _

/-! ## Routing, cancellation and the session steps -/

theorem completed_framesSound (r : FoxtronResponse) (f : InFlight) {s : State} (h : s.FramesSound) :
    (completed r f s).FramesSound :=
  (h.setInflight none).emit _

theorem distinctRoute_framesSound (r : FoxtronResponse) {s : State} (h : s.FramesSound) : (distinctRoute r s).FramesSound := by
  rcases distinctRoute_cases r s with ⟨-, e⟩ | ⟨f, -, -, e⟩ | ⟨f, -, -, -, e⟩ | ⟨f, q, -, -, -, e⟩ <;> rw [e]
  · exact h
  · exact h.setInflight _
  · exact completed_framesSound r f h
  · exact seqContinue_framesSound r (completed_framesSound r f h)

theorem cancelInflight_framesSound {s : State} (h : s.FramesSound) : (cancelInflight s).FramesSound := by
  have rejected (f : InFlight) : ((s.setInflight none).reject f.completion .cancelled).FramesSound :=
    (h.setInflight none).emit _
  rcases cancelInflight_cases s with ⟨-, e⟩ | ⟨f, -, -, e⟩ | ⟨f, q, -, -, e⟩ <;> rw [e]
  · exact h
  · exact rejected f
  · exact ((rejected f).setSeq none).emit _

theorem announceOpen_framesSound {s : State} (h : s.FramesSound) : (announceOpen s).FramesSound := by
  cases ho : s.eng.openEmitted with
  | true => rwa [announceOpen, ho]
  | false =>
    rw [announceOpen, ho]
    exact State.FramesSound.emit (s := s.setOpenEmitted true) (h.of_outputs rfl) _

theorem startBootTimer_framesSound {s : State} (h : s.FramesSound) : (startBootTimer s).FramesSound :=
  State.FramesSound.emit (s := s.setBootTimerArmed true) (h.of_outputs rfl) _

theorem transportOpen_framesSound {s : State} (h : s.FramesSound) : (transportOpen s).FramesSound := by
  have opened : (s.setTransportOpen true).FramesSound := h.of_outputs rfl
  have dtr : (((s.setTransportOpen true).emit (.setLine true)).setDtrAsserted true).FramesSound :=
    (opened.emit (.setLine true)).of_outputs rfl
  rw [transportOpen]
  split
  next => exact h
  next =>
    cases s.cfg.bootMethod with
    | noBoot =>
      dsimp only
      split
      next => exact announceOpen_framesSound opened
      next => exact opened
    | waitOnly => exact startBootTimer_framesSound opened
    | setDTR => exact startBootTimer_framesSound dtr

theorem transportClose_framesSound (err : Option Nat) {s : State} (h : s.FramesSound) : (transportClose err s).FramesSound := by
  rcases transportClose_cases err s with ⟨-, e⟩ | ⟨-, e⟩ <;> rw [e]
  · exact h
  · have down : s.shutDown.FramesSound := h.of_outputs rfl
    exact (cancelInflight_framesSound down).emit _

theorem timerExpiry_framesSound {s : State} (h : s.FramesSound) : (timerExpiry s).FramesSound := by
  rw [timerExpiry]
  split
  next => exact h
  next => exact announceOpen_framesSound (h.of_outputs rfl)

/-! ## Every step -/

theorem ExecShape.framesSound {i : Instr} {s t : State} (h : s.FramesSound) (k : ExecShape i s t) : t.FramesSound := by
  cases k with
  | one o ho ht => rw [ht]; exact h.emit o ho.silent
  | two o o' ho ho' ht => rw [ht]; exact (h.emit o ho.silent).emit o' ho'.silent
  | sent req hi ht => rw [ht]; exact callSendCmd_framesSound h req
  | routed r hi ht => rw [ht]; exact distinctRoute_framesSound r h

theorem StepShape.framesSound {x : Input} {s t : State} (h : s.FramesSound) (k : StepShape x s t) : t.FramesSound := by
  cases k with
  | presented e i hx hd k => exact k.framesSound h
  | strobed o ho ht => rw [ht]; exact h.emit o ho.silent
  | opened hx ht => rw [ht]; exact transportOpen_framesSound h
  | closed err hx ht => rw [ht]; exact transportClose_framesSound err h
  | expired hx ht => rw [ht]; exact timerExpiry_framesSound h
  | cancelled hx ht => rw [ht]; exact cancelInflight_framesSound h
  | searched v hx ht => rw [ht]; exact setSearchAddress_framesSound v h

/-- Settles O56, by the shapes a step can have: each operation keeps the invariant. -/
theorem everyTransmissionIsWellFramed : Obligations.EveryTransmissionIsWellFramed := by
  intro s t h hstep
  rcases step_cases hstep with ⟨-, rfl⟩ | ⟨x, rest, -, k⟩
  · exact h
  · have taken : (s.setInputs rest).FramesSound := h.of_outputs rfl
    exact k.framesSound taken

end Sys2Proof.Machine
end

section
/-! The frame decoder (47_foxtron_responses R305 to R316): what it answers, check by check and field by field, on any chunk; then
the frames of the eight types, with the payload's own checksum byte or any other. -/

namespace Sys2Proof

section
variable {cfg : Config} {f : List Byte}

/-! ## The checks before the type -/

theorem frameAccepted_iff (cfg : Config) (f : List Byte) :
    frameAccepted cfg f = true ↔ f.head? = some soh ∧
      (cfg.verifyRxChecksum = true → 6 ≤ f.length ∧ f.getLast? = some etb ∧ checksumValid f = true) := by
  cases h : cfg.verifyRxChecksum <;> simp [frameAccepted, h, List.head?_eq_getElem?, and_assoc]

theorem frameDecode_of_not_accepted (h : ¬ frameAccepted cfg f = true) : frameDecode cfg f = .error .protocolError :=
  if_pos (Bool.eq_false_of_not_eq_true h)

/-- An accepted chunk is read by its type field (R305 (3) to (5), R314). -/
theorem frameDecode_of_accepted (h : frameAccepted cfg f = true) :
    frameDecode cfg f = unhex2 f 1 >>= fun t =>
      (rspTypeOf cfg t).elim (.error (.unknownResponseType t)) (decodeFields cfg f) := by
  simp only [frameDecode, h, bind, Except.bind]
  cases unhex2 f 1 with
  | error e => rfl
  | ok t => cases ht : rspTypeOf cfg t <;> simp only [ht] <;> rfl

/-- A value is outside a code map exactly when it is the code of no name in it. -/
theorem find_code_none_iff {α : Type} {code : α → Byte} {names : List α} (all : ∀ a, a ∈ names) (k : Byte) :
    names.find? (fun a => code a == k) = none ↔ ∀ a, code a ≠ k := by
  simp [all]

theorem rspTypeOf_none_iff (cfg : Config) (k : Byte) : rspTypeOf cfg k = none ↔ ∀ t, cfg.rspTypeCode t ≠ k :=
  find_code_none_iff (fun t => by cases t <;> decide) k

theorem ackFlagOf_none_iff (cfg : Config) (k : Byte) : ackFlagOf cfg k = none ↔ ∀ a, cfg.ackFlagCode a ≠ k :=
  find_code_none_iff (fun a => by cases a <;> decide) k

theorem specOf_none_iff (cfg : Config) (k : Byte) : specOf cfg k = none ↔ ∀ m, cfg.specCode m ≠ k :=
  find_code_none_iff (fun m => by cases m <;> decide) k

theorem frameDecode_unknownType {t : Byte} (accepted : frameAccepted cfg f = true) (type : unhex2 f 1 = .ok t)
    (unknown : rspTypeOf cfg t = none) : frameDecode cfg f = .error (.unknownResponseType t) := by
  rw [frameDecode_of_accepted accepted, type]
  simp only [bind, Except.bind, unknown, Option.elim]

theorem frameDecode_of_type {t : ResponseType} (h : cfg.wf = true) (accepted : frameAccepted cfg f = true)
    (type : unhex2 f 1 = .ok (cfg.rspTypeCode t)) : frameDecode cfg f = decodeFields cfg f t := by
  rw [frameDecode_of_accepted accepted, type]
  simp only [bind, Except.bind, rspTypeOf_code h, Option.elim]

/-! ## Fields that are refused, in any chunk that has them at their places (47 R306 to R312) -/

theorem decodeWithResponse_badLength {n : Byte} (length : unhex2 f 3 = .ok n) (h0 : n ≠ 0) (h16 : n ≠ 16) :
    decodeWithResponse cfg f = .error .protocolError := by
  simp only [decodeWithResponse, length, bind, Except.bind, if_neg h0, if_pos h16]
  rfl

theorem decodeNoResponse_badLength {n : Byte} (length : unhex2 f 3 = .ok n) (h0 : n ≠ 0) (h16 : n ≠ 16) :
    decodeNoResponse cfg f = .error .protocolError := by
  simp only [decodeNoResponse, length, bind, Except.bind, if_neg h0, if_pos h16]
  rfl

theorem decodeWithResponse_badCommand {w : Word} {e : Error} (length : unhex2 f 3 = .ok 16) (word : unhex4 f 5 = .ok w)
    (command : fromBytecode cfg w = .error e) : decodeWithResponse cfg f = .error e := by
  simp only [decodeWithResponse, length, word, command, bind, Except.bind]
  rfl

theorem decodeNoResponse_badCommand {w : Word} {e : Error} (length : unhex2 f 3 = .ok 16) (word : unhex4 f 5 = .ok w)
    (command : fromBytecode cfg w = .error e) : decodeNoResponse cfg f = .error e := by
  simp only [decodeNoResponse, length, word, command, bind, Except.bind]
  rfl

section
variable {w : Word} {c : DALICommand}

theorem decodeWithResponse_badAnswerLength {n : Byte} (length : unhex2 f 3 = .ok 16) (word : unhex4 f 5 = .ok w)
    (command : fromBytecode cfg w = .ok c) (answerLength : unhex2 f 9 = .ok n) (h0 : n ≠ 0) (h8 : n ≠ 8) :
    decodeWithResponse cfg f = .error .protocolError := by
  simp only [decodeWithResponse, length, word, command, answerLength, bind, Except.bind, if_neg h0, if_pos h8]
  rfl

theorem decodeWithResponse_badAnswer {b : Byte} {e : Error} (length : unhex2 f 3 = .ok 16) (word : unhex4 f 5 = .ok w)
    (command : fromBytecode cfg w = .ok c) (answerLength : unhex2 f 9 = .ok 8) (byte : unhex2 f 11 = .ok b)
    (answer : decodeResponse cfg b c.code = .error e) : decodeWithResponse cfg f = .error e := by
  simp only [decodeWithResponse, length, word, command, answerLength, byte, answer, bind, Except.bind]
  rfl

end

theorem decodeConfChangeAck_unmapped {i k : Byte} {d : Word} (index : unhex2 f 3 = .ok i) (data : unhex4 f 5 = .ok d)
    (code : unhex2 f 9 = .ok k) (unmapped : ackFlagOf cfg k = none) :
    decodeConfChangeAck cfg f = .error .protocolError := by
  simp only [decodeConfChangeAck, index, data, code, bind, Except.bind, unmapped]
  rfl

theorem decodeSpecReceived_unmapped {k : Byte} (code : unhex2 f 3 = .ok k) (unmapped : specOf cfg k = none) :
    decodeSpecReceived cfg f = .error .protocolError := by
  simp only [decodeSpecReceived, code, bind, Except.bind, unmapped]
  rfl

/-! ## By the type of the frame -/

theorem decodeFields_answer {r : AnswerReport} (h : decodeWithResponse cfg f = .ok r) :
    decodeFields cfg f .response = .ok (.response r) ∧ decodeFields cfg f .distinctResponse = .ok (.distinctResponse r) := by
  constructor <;> simp only [decodeFields, h] <;> rfl

theorem decodeFields_forward {r : ForwardReport} (h : decodeNoResponse cfg f = .ok r) :
    decodeFields cfg f .noResponse = .ok (.noResponse r) ∧
      decodeFields cfg f .distinctNoResponse = .ok (.distinctNoResponse r) := by
  constructor <;> simp only [decodeFields, h] <;> rfl

theorem decodeFields_answer_error {t : ResponseType} (ht : t ∈ [ResponseType.response, .distinctResponse]) {e : Error}
    (h : decodeWithResponse cfg f = .error e) : decodeFields cfg f t = .error e := by
  simp only [List.mem_cons, List.not_mem_nil, or_false] at ht
  rcases ht with rfl | rfl <;> simp only [decodeFields, h] <;> rfl

theorem decodeFields_forward_error {t : ResponseType} (ht : t ∈ [ResponseType.noResponse, .distinctNoResponse]) {e : Error}
    (h : decodeNoResponse cfg f = .error e) : decodeFields cfg f t = .error e := by
  simp only [List.mem_cons, List.not_mem_nil, or_false] at ht
  rcases ht with rfl | rfl <;> simp only [decodeFields, h] <;> rfl

/-- What both reports refuse, the fields of all four types do. -/
theorem decodeFields_report_error {t : ResponseType}
    (ht : t ∈ [ResponseType.response, .distinctResponse, .noResponse, .distinctNoResponse]) {e : Error}
    (answer : decodeWithResponse cfg f = .error e) (forward : decodeNoResponse cfg f = .error e) :
    decodeFields cfg f t = .error e := by
  rcases (List.mem_append (s := [ResponseType.response, .distinctResponse])).1 ht with ht | ht
  · exact decodeFields_answer_error ht answer
  · exact decodeFields_forward_error ht forward

end

/-- Settles O21: what is the code of no response type is not found among them. -/
theorem unknownTypeIsRefused : Obligations.UnknownTypeIsRefused :=
  fun cfg _ t accepted type unknown => frameDecode_unknownType accepted type ((rspTypeOf_none_iff cfg t).2 unknown)

/-! ## Frames with the payload's own checksum byte, or any other -/

/-- The checksum byte stands after the payload, so no payload digit depends on it. -/
theorem digitAt_frameWith (k : Byte) {p : HexString} {i : Nat} (h : i < p.length) :
    digitAt (frameWith k p) (i + 1) = digitAt (frameOf p) (i + 1) := by
  have digits : i < (p.map hexChar).length := by rwa [List.length_map]
  simp only [digitAt, frameWith, frameOf, List.map_append, List.append_assoc, List.getElem?_cons_succ,
    List.getElem?_append_left digits]

theorem unhex2_frameWith_eq (k : Byte) {p : HexString} {i : Nat} (h : i + 2 ≤ p.length) :
    unhex2 (frameWith k p) (i + 1) = unhex2 (frameOf p) (i + 1) := by
  rw [unhex2, unhex2, digitAt_frameWith k (i := i) (by omega), digitAt_frameWith k (i := i + 1) (by omega)]

theorem unhex4_frameWith_eq (k : Byte) {p : HexString} {i : Nat} (h : i + 4 ≤ p.length) :
    unhex4 (frameWith k p) (i + 1) = unhex4 (frameOf p) (i + 1) := by
  rw [unhex4, unhex4, unhex2_frameWith_eq k (i := i) (by omega), unhex2_frameWith_eq k (i := i + 2) (by omega)]

/-- Digits found in a list stand inside it. -/
theorem length_of_drop_take {p ds : HexString} {i n : Nat} (h : (p.drop i).take n = ds) (hn : ds.length = n) (pos : 0 < n) :
    i + n ≤ p.length := by
  have size := congrArg List.length h
  simp only [List.length_take, List.length_drop, hn] at size
  omega

theorem unhex2_frameWith {k : Byte} {p : HexString} {i : Nat} {b : Byte} (h : (p.drop i).take 2 = hex2 b) :
    unhex2 (frameWith k p) (i + 1) = .ok b := by
  rw [unhex2_frameWith_eq k (length_of_drop_take h (hex2_length b) (by decide)), unhex2_frameOf h]

theorem unhex4_frameWith {k : Byte} {p : HexString} {i : Nat} {w : Word} (h : (p.drop i).take 4 = hex4 w) :
    unhex4 (frameWith k p) (i + 1) = .ok w := by
  rw [unhex4_frameWith_eq k (length_of_drop_take h (hex4_length w) (by decide)), unhex4_frameOf h]

/-- An accepted frame decodes to what the fields of the type in its first two digits read as. -/
theorem frameDecode_frameWith_of_fields {cfg : Config} (h : cfg.wf = true) {k : Byte} {t : ResponseType} {p : HexString}
    {x : Except Error FoxtronResponse} (accepted : 2 ≤ p.length → frameAccepted cfg (frameWith k p) = true)
    (type : p.take 2 = hex2 (cfg.rspTypeCode t)) (fields : decodeFields cfg (frameWith k p) t = x) :
    frameDecode cfg (frameWith k p) = x := by
  have size : 2 ≤ p.length := length_of_drop_take (i := 0) type (hex2_length _) (by decide)
  exact (frameDecode_of_type h (accepted size) (unhex2_frameWith type)).trans fields

/-- The byte whose digits are the checksum (30 R86). -/
def checksumByte (p : HexString) : Byte := 0xFF - byteSum (bytePairs (padEven p))

theorem frameOf_eq_frameWith (p : HexString) : frameOf p = frameWith (checksumByte p) p := rfl

/-- With its own checksum a frame is accepted, verified or not. -/
theorem frameDecode_frameOf_of_fields {cfg : Config} (h : cfg.wf = true) {t : ResponseType} {p : HexString}
    {x : Except Error FoxtronResponse} (type : p.take 2 = hex2 (cfg.rspTypeCode t))
    (fields : decodeFields cfg (frameOf p) t = x) : frameDecode cfg (frameOf p) = x := by
  have accepted := frameAccepted_frameOf cfg (p := p)
  rw [frameOf_eq_frameWith] at accepted fields ⊢
  exact frameDecode_frameWith_of_fields h accepted type fields

/-- Settles O19: what each length field makes of the report, then of the frame. -/
theorem lengthFieldsDecide : Obligations.LengthFieldsDecide := by
  intro cfg h rest n c w
  refine ⟨?noForward, fun t ht => ⟨fun h0 h16 => ?badLength, fun refused => ?badWord⟩, fun valid => ?answers⟩
  case noForward =>
    have zero (t : ResponseType) : unhex2 (frameOf (hex2 (cfg.rspTypeCode t) ++ hex2 0 ++ rest)) 3 = .ok 0 := unhex2_frameOf rfl
    exact ⟨frameDecode_frameOf_of_fields h rfl (decodeFields_answer (decodeWithResponse_noForward (zero _))).1,
      frameDecode_frameOf_of_fields h rfl (decodeFields_answer (decodeWithResponse_noForward (zero _))).2,
      frameDecode_frameOf_of_fields h rfl (decodeFields_forward (decodeNoResponse_noForward (zero _))).1,
      frameDecode_frameOf_of_fields h rfl (decodeFields_forward (decodeNoResponse_noForward (zero _))).2⟩
  case badLength =>
    have length : unhex2 (frameOf (hex2 (cfg.rspTypeCode t) ++ hex2 n ++ rest)) 3 = .ok n := unhex2_frameOf rfl
    exact frameDecode_frameOf_of_fields h rfl (decodeFields_report_error ht (decodeWithResponse_badLength length h0 h16)
      (decodeNoResponse_badLength length h0 h16))
  case badWord =>
    have length : unhex2 (frameOf (hex2 (cfg.rspTypeCode t) ++ hex2 16 ++ hex4 w ++ rest)) 3 = .ok 16 := unhex2_frameOf rfl
    have word : unhex4 (frameOf (hex2 (cfg.rspTypeCode t) ++ hex2 16 ++ hex4 w ++ rest)) 5 = .ok w := unhex4_frameOf rfl
    exact frameDecode_frameOf_of_fields h rfl (decodeFields_report_error ht (decodeWithResponse_badCommand length word refused)
      (decodeNoResponse_badCommand length word refused))
  case answers =>
    have command := fromBytecode_toBytecode h valid
    have noBackward (t : ResponseType) : decodeWithResponse cfg (frameOf (hex2 (cfg.rspTypeCode t) ++ hex2 16 ++
        hex4 (toBytecode cfg c) ++ hex2 0 ++ rest)) = .ok (.noBackward c) :=
      decodeWithResponse_noBackward (unhex2_frameOf rfl) (unhex4_frameOf rfl) command (unhex2_frameOf rfl)
    refine ⟨frameDecode_frameOf_of_fields h rfl (decodeFields_answer (noBackward _)).1,
      frameDecode_frameOf_of_fields h rfl (decodeFields_answer (noBackward _)).2,
      fun t ht => ⟨fun h0 h8 => ?badLength, fun null b => ?unexpected⟩⟩
    case badLength =>
      exact frameDecode_frameOf_of_fields h rfl (decodeFields_answer_error ht (decodeWithResponse_badAnswerLength
        (unhex2_frameOf rfl) (unhex4_frameOf rfl) command (unhex2_frameOf rfl) h0 h8))
    case unexpected =>
      have unexpected := (decodeResponse_unexpected_iff (respValueType_ok h c.code) b).2 null
      exact frameDecode_frameOf_of_fields h rfl (decodeFields_answer_error ht (decodeWithResponse_badAnswer
        (unhex2_frameOf rfl) (unhex4_frameOf rfl) command (unhex2_frameOf rfl) (unhex2_frameOf rfl) unexpected))

/-- Settles O20: a byte that is no code is not found in the code map. -/
theorem unmappedCodesAreRefused : Obligations.UnmappedCodesAreRefused := by
  intro cfg h i k d rest
  refine ⟨fun unmapped => ?flag, fun unmapped => ?condition⟩
  case flag =>
    exact frameDecode_frameOf_of_fields (t := .confChangeAck) h rfl (decodeConfChangeAck_unmapped (unhex2_frameOf rfl)
      (unhex4_frameOf rfl) (unhex2_frameOf rfl) ((ackFlagOf_none_iff cfg k).2 unmapped))
  case condition =>
    exact frameDecode_frameOf_of_fields (t := .specReceived) h rfl (decodeSpecReceived_unmapped (unhex2_frameOf rfl)
      ((specOf_none_iff cfg k).2 unmapped))

/-- The frames of all eight types decode to their fields under any checksum byte with which a chunk is accepted (R316). -/
theorem benchFramesDecode {cfg : Config} (h : cfg.wf = true) (k : HexString → Byte)
    (accepted : ∀ p : HexString, 2 ≤ p.length → frameAccepted cfg (frameWith (k p) p) = true) :
    BenchFramesDecode cfg (fun p => frameWith (k p) p) := by
  have decodes {t : ResponseType} {p : HexString} {r : FoxtronResponse} :=
    frameDecode_frameWith_of_fields (t := t) (x := .ok r) h (accepted p)
  refine ⟨fun c b r valid answer => ?answered, fun c valid => ?forward, fun i d => ⟨?conf, fun flag => ?ack⟩,
    fun m => ?spec, ?reset⟩
  case answered =>
    have report (k t : Byte) : decodeWithResponse cfg (frameWith k (hex2 t ++ hex2 0x10 ++ hex4 (toBytecode cfg c) ++
        hex2 0x08 ++ hex2 b)) = .ok (.answered c r) :=
      decodeWithResponse_answered (unhex2_frameWith rfl) (unhex4_frameWith rfl) (fromBytecode_toBytecode h valid)
        (unhex2_frameWith rfl) (unhex2_frameWith rfl) answer
    exact ⟨decodes rfl (decodeFields_answer (report _ _)).1, decodes rfl (decodeFields_answer (report _ _)).2⟩
  case forward =>
    have report (k t : Byte) : decodeNoResponse cfg (frameWith k (hex2 t ++ hex2 0x10 ++ hex4 (toBytecode cfg c))) =
        .ok (.forward c) :=
      decodeNoResponse_forward (unhex2_frameWith rfl) (unhex4_frameWith rfl) (fromBytecode_toBytecode h valid)
    exact ⟨decodes rfl (decodeFields_forward (report _ _)).1, decodes rfl (decodeFields_forward (report _ _)).2⟩
  case conf =>
    exact decodes (t := .confResponse) rfl (decodeConfResponse_ok (unhex2_frameWith rfl) (unhex4_frameWith rfl))
  case ack =>
    exact decodes (t := .confChangeAck) rfl (decodeConfChangeAck_ok (unhex2_frameWith rfl) (unhex4_frameWith rfl)
      (unhex2_frameWith rfl) (ackFlagOf_code h flag))
  case spec => exact decodes (t := .specReceived) rfl (decodeSpecReceived_ok (unhex2_frameWith rfl) (specOf_code h m))
  case reset => exact decodes (t := .firmwareResetAck) rfl rfl

/-- Settles O18: the checksum byte is the payload's own, so the chunk is accepted with verification on or off. -/
theorem benchFramesDecodeToTheirFields : Obligations.BenchFramesDecodeToTheirFields := by
  intro cfg h
  rw [show frameOf = fun p => frameWith (checksumByte p) p from funext frameOf_eq_frameWith]
  exact benchFramesDecode h checksumByte fun _ => frameAccepted_frameOf cfg

/-! Whether the checksum is verified is no part of the tables and the code maps that the type and the fields are read with. -/

section
variable (cfg : Config) (v : Bool)

theorem row_withVerify (c : Code) : { cfg with verifyRxChecksum := v }.row c = cfg.row c := rfl

theorem rspTypeOf_withVerify (b : Byte) : rspTypeOf { cfg with verifyRxChecksum := v } b = rspTypeOf cfg b := rfl

theorem fromBytecode_withVerify (w : Word) : fromBytecode { cfg with verifyRxChecksum := v } w = fromBytecode cfg w := by
  simp only [fromBytecode, decodeSpecial, decodeAddressed, singleOpcode, blockOpcode, specialOf, cmdValueType, row_withVerify]

theorem decodeResponse_withVerify (b : Byte) (c : Code) :
    decodeResponse { cfg with verifyRxChecksum := v } b c = decodeResponse cfg b c := by
  simp only [decodeResponse, respValueType, row_withVerify]

theorem decodeFields_withVerify (f : List Byte) (t : ResponseType) :
    decodeFields { cfg with verifyRxChecksum := v } f t = decodeFields cfg f t := by
  cases t with
  | response | distinctResponse =>
    simp only [decodeFields, decodeWithResponse, fromBytecode_withVerify, decodeResponse_withVerify]
  | noResponse | distinctNoResponse => simp only [decodeFields, decodeNoResponse, fromBytecode_withVerify]
  | confResponse | confChangeAck | specReceived | firmwareResetAck => rfl

end

/-- Settles O23: verification is one of the checks on a chunk, and nothing after them reads it. -/
theorem checksumVerificationOnlyFilters : Obligations.ChecksumVerificationOnlyFilters := by
  intro cfg f
  refine ⟨fun on => ⟨fun bad => ?refused, fun size last valid => ?same⟩, fun off h k => ?anyByte⟩
  case refused =>
    refine frameDecode_of_not_accepted fun accepted => ?_
    obtain ⟨size, last, valid⟩ := ((frameAccepted_iff cfg f).1 accepted).2 on
    rcases bad with short | noEnd | invalid
    · omega
    · exact noEnd last
    · cases valid.symm.trans invalid
  case same =>
    have accepted : frameAccepted cfg f = frameAccepted { cfg with verifyRxChecksum := false } f := by
      rw [Bool.eq_iff_iff, frameAccepted_iff, frameAccepted_iff]
      exact and_congr_right fun _ => iff_of_true (fun _ => ⟨size, last, valid⟩) nofun
    simp only [frameDecode, accepted, rspTypeOf_withVerify, decodeFields_withVerify]
  case anyByte =>
    exact benchFramesDecode h (fun _ => k) fun p _ => (frameAccepted_iff cfg _).2 ⟨rfl, fun on => absurd on (by simp [off])⟩

/-! ## The errors of the decoder -/

/-- Every error of the computation is of this kind. -/
def Raises {α : Type} (kind : Error → Prop) (x : Except Error α) : Prop := ∀ e, x = .error e → kind e

section
variable {α β : Type} {kind : Error → Prop}

theorem Raises.pure (a : α) : Raises kind (Pure.pure a) := nofun

theorem Raises.throw {e : Error} (h : kind e) : Raises kind (MonadExcept.throw e : Except Error α) := by
  rintro _ ⟨⟩
  exact h

theorem Raises.bind {x : Except Error α} {g : α → Except Error β} (hx : Raises kind x) (hg : ∀ a, Raises kind (g a)) :
    Raises kind (x >>= g) := by
  cases x with
  | error e => rintro _ ⟨⟩; exact hx e rfl
  | ok a => exact hg a

theorem Raises.map (g : α → β) {x : Except Error α} (hx : Raises kind x) : Raises kind (g <$> x) := by
  cases x with
  | error e => rintro _ ⟨⟩; exact hx e rfl
  | ok a => exact nofun

end

/-- The errors of a frame's fields (47 R315). -/
inductive FieldError (cfg : Config) : Error → Prop
  | protocol : FieldError cfg .protocolError
  | malformed {w : Word} (refused : fromBytecode cfg w = .error (.malformedBytecode w)) : FieldError cfg (.malformedBytecode w)
  | unexpected : FieldError cfg .unexpectedResponse

section
variable {cfg : Config}

theorem unhex2_raises (f : List Byte) (i : Nat) : Raises (FieldError cfg) (unhex2 f i) := by
  unfold unhex2
  split
  · exact nofun
  · exact Raises.throw .protocol

theorem unhex4_raises (f : List Byte) (i : Nat) : Raises (FieldError cfg) (unhex4 f i) := by
  unfold unhex4
  split
  · exact nofun
  · exact Raises.throw .protocol

theorem fromBytecode_raises (w : Word) : Raises (FieldError cfg) (fromBytecode cfg w) := by
  rcases (fromBytecodeIsTotal cfg).1 w with ⟨c, ok⟩ | refused
  · rw [ok]; exact nofun
  · rw [refused]
    exact Raises.throw (.malformed refused)

theorem decodeResponse_raises (b : Byte) (c : Code) : Raises (FieldError cfg) (decodeResponse cfg b c) := by
  unfold decodeResponse
  cases respValueType cfg c with
  | boolean | dataByte | random | short | dataByteAndFalse => exact nofun
  | null | group | scene => exact Raises.throw .unexpected

theorem decodeWithResponse_raises (f : List Byte) : Raises (FieldError cfg) (decodeWithResponse cfg f) := by
  refine .bind (unhex2_raises f 3) fun n => ?_
  split
  · exact .pure _
  split
  · exact .throw .protocol
  refine .bind (unhex4_raises f 5) fun w => .bind (fromBytecode_raises w) fun c => .bind (unhex2_raises f 9) fun m => ?_
  split
  · exact .pure _
  split
  · exact .throw .protocol
  exact .bind (unhex2_raises f 11) fun b => .bind (decodeResponse_raises b c.code) fun r => .pure _

theorem decodeNoResponse_raises (f : List Byte) : Raises (FieldError cfg) (decodeNoResponse cfg f) := by
  refine .bind (unhex2_raises f 3) fun n => ?_
  split
  · exact .pure _
  split
  · exact .throw .protocol
  exact .bind (unhex4_raises f 5) fun w => .bind (fromBytecode_raises w) fun c => .pure _

theorem decodeConfResponse_raises (f : List Byte) : Raises (FieldError cfg) (decodeConfResponse f) :=
  .bind (unhex2_raises f 3) fun _ => .bind (unhex4_raises f 5) fun _ => .pure _

theorem decodeConfChangeAck_raises (f : List Byte) : Raises (FieldError cfg) (decodeConfChangeAck cfg f) := by
  refine .bind (unhex2_raises f 3) fun _ => .bind (unhex4_raises f 5) fun _ => .bind (unhex2_raises f 9) fun k => ?_
  split
  · exact .pure _
  · exact .throw .protocol

theorem decodeSpecReceived_raises (f : List Byte) : Raises (FieldError cfg) (decodeSpecReceived cfg f) := by
  refine .bind (unhex2_raises f 3) fun k => ?_
  split
  · exact .pure _
  · exact .throw .protocol

theorem decodeFields_raises (f : List Byte) (t : ResponseType) : Raises (FieldError cfg) (decodeFields cfg f t) := by
  cases t with
  | response | distinctResponse => exact .map _ (decodeWithResponse_raises f)
  | noResponse | distinctNoResponse => exact .map _ (decodeNoResponse_raises f)
  | confResponse => exact decodeConfResponse_raises f
  | confChangeAck => exact decodeConfChangeAck_raises f
  | specReceived => exact decodeSpecReceived_raises f
  | firmwareResetAck => exact .pure _

/-- The errors of a frame: those of its fields, or its type is the code of no response type (47 R315). -/
inductive FrameError (cfg : Config) : Error → Prop
  | field {e : Error} (h : FieldError cfg e) : FrameError cfg e
  | unknownType {t : Byte} (h : ∀ ty, cfg.rspTypeCode ty ≠ t) : FrameError cfg (.unknownResponseType t)

theorem Raises.field {α : Type} {x : Except Error α} (h : Raises (FieldError cfg) x) : Raises (FrameError cfg) x :=
  fun e he => .field (h e he)

theorem frameDecode_raises (f : List Byte) : Raises (FrameError cfg) (frameDecode cfg f) := by
  cases accepted : frameAccepted cfg f with
  | false =>
    rw [frameDecode_of_not_accepted (by simp [accepted])]
    exact .throw (.field .protocol)
  | true =>
    rw [frameDecode_of_accepted accepted]
    refine .bind (unhex2_raises f 1).field fun t => ?_
    cases type : rspTypeOf cfg t with
    | some ty => exact (decodeFields_raises f ty).field
    | none => exact .throw (.unknownType ((rspTypeOf_none_iff cfg t).1 type))

end

/-- Settles O22, by the kinds of error a frame raises. -/
theorem frameDecodeErrors : Obligations.FrameDecodeErrors := by
  intro cfg f
  refine ⟨?_, fun start => frameDecode_of_not_accepted fun accepted => start ((frameAccepted_iff cfg f).1 accepted).1⟩
  cases answer : frameDecode cfg f with
  | ok r => exact .inl ⟨r, rfl⟩
  | error e =>
    cases frameDecode_raises f e answer with
    | field h =>
      cases h with
      | protocol => exact .inr (.inl rfl)
      | malformed refused => exact .inr (.inr (.inr (.inl ⟨_, rfl, refused⟩)))
      | unexpected => exact .inr (.inr (.inr (.inr rfl)))
    | unknownType h => exact .inr (.inr (.inl ⟨_, rfl, h⟩))

end Sys2Proof
end

section
/-! The session steps by their exact next states (48_master_engine R340 to R344), and what a caller's `close` and `isOpen` strobe. -/

namespace Sys2Proof.Machine

/-! ## `transportOpen` -/

theorem announceOpen_announced {s : State} (h : s.eng.openEmitted = true) : announceOpen s = s := by
  rw [announceOpen, if_pos h]

theorem announceOpen_first {s : State} (h : s.eng.openEmitted = false) :
    announceOpen s = (s.setOpenEmitted true).event .sessionOpen := by
  simp [announceOpen, h]

theorem transportOpen_ignored {s : State} (h : s.eng.session = .destroyed ∨ s.eng.transportOpen = true) :
    transportOpen s = s := by
  rw [transportOpen, if_pos h]

section
variable {s : State} (alive : s.eng.session ≠ .destroyed) (shut : s.eng.transportOpen = false)
include alive shut

theorem transportOpen_noBoot (boot : s.cfg.bootMethod = .noBoot) :
    transportOpen s =
      if s.cfg.emitOpenWithoutBoot then announceOpen (s.setTransportOpen true) else s.setTransportOpen true := by
  simp [transportOpen, alive, shut, boot]

theorem transportOpen_waitOnly (boot : s.cfg.bootMethod = .waitOnly) :
    transportOpen s = startBootTimer (s.setTransportOpen true) := by
  simp [transportOpen, alive, shut, boot]

theorem transportOpen_setDTR (boot : s.cfg.bootMethod = .setDTR) :
    transportOpen s = startBootTimer (((s.setTransportOpen true).emit (.setLine true)).setDtrAsserted true) := by
  simp [transportOpen, alive, shut, boot]

end

/-- Settles O45, by the boot method. -/
theorem transportOpenByBootMethod : Obligations.TransportOpenByBootMethod := by
  refine fun s => ⟨transportOpen_ignored, fun alive shut => ⟨?announces, ?silent, ?waitOnly, ?setDTR⟩⟩
  case announces =>
    intro boot emits first
    rw [transportOpen_noBoot alive shut boot, if_pos emits]
    exact announceOpen_first (s := s.setTransportOpen true) first
  case silent =>
    intro boot quiet
    rw [transportOpen_noBoot alive shut boot]
    rcases quiet with never | already
    · rw [if_neg (by simp [never])]
      rfl
    · rw [announceOpen_announced (s := s.setTransportOpen true) already, ite_self]
      rfl
  case waitOnly =>
    intro boot
    rw [transportOpen_waitOnly alive shut boot]
    rfl
  case setDTR =>
    intro boot
    rw [transportOpen_setDTR alive shut boot]
    simp [startBootTimer, State.emit, State.setTransportOpen, State.setDtrAsserted, State.setBootTimerArmed]

/-! ## `timerExpiry` -/

theorem timerExpiry_unarmed {s : State} (h : s.eng.bootTimerArmed = false) : timerExpiry s = s := by
  rw [timerExpiry, if_pos h]

theorem timerExpiry_armed {s : State} (h : s.eng.bootTimerArmed = true) :
    timerExpiry s = announceOpen ((s.setBootTimerArmed false).setSession .running) := by
  simp [timerExpiry, h]

/-- The timer is armed only while the session waits, and the transport is open then; the expiry makes the session run. -/
theorem timerExpiry_usable {s : State} (inv : s.Inv) (armed : s.eng.bootTimerArmed = true) :
    s.eng.usable = false ∧ (timerExpiry s).eng.usable = true := by
  obtain ⟨waiting, opened⟩ := inv.timer armed
  obtain ⟨-, writes⟩ := announceOpen_writes ((s.setBootTimerArmed false).setSession .running)
  rw [timerExpiry_armed armed, writes]
  exact ⟨by simp [Engine.usable, waiting], (Engine.usable_iff _).2 ⟨opened, rfl⟩⟩

/-- Settles O46. -/
theorem timerExpiryOpensTheSession : Obligations.TimerExpiryOpensTheSession := by
  refine fun s => ⟨timerExpiry_unarmed, fun armed =>
    ⟨fun first => ?_, fun already => ?_, fun inv => timerExpiry_usable inv armed⟩⟩
  · exact (timerExpiry_armed armed).trans (announceOpen_first first)
  · exact (timerExpiry_armed armed).trans (announceOpen_announced already)

/-! ## Cancellation: `reset` and `transportClose` -/

theorem cancelInflight_free {s : State} (h : s.eng.inflight = none) : cancelInflight s = s := by
  simp [cancelInflight, h]

theorem cancelInflight_request {s : State} {f : InFlight} (hf : s.eng.inflight = some f) (hq : s.eng.seq = none) :
    cancelInflight s = { s with
      eng := { s.eng with inflight := none }
      outputs := s.outputs ++ [.reject f.completion .cancelled] } := by
  simp [cancelInflight, hf, seqAbort, hq, State.setInflight, State.emit]

theorem cancelInflight_sequence {s : State} {f : InFlight} {q : Sequencer} (hf : s.eng.inflight = some f)
    (hq : s.eng.seq = some q) :
    cancelInflight s = { s with
      eng := { s.eng with inflight := none, seq := none }
      outputs := s.outputs ++ [.reject f.completion .cancelled, .reject q.completion .cancelled] } := by
  simp [cancelInflight, hf, seqAbort, hq, State.setInflight, State.setSeq, State.emit]

/-- Settles O48. -/
theorem resetFreesTheSlot : Obligations.ResetFreesTheSlot :=
  fun _ => ⟨cancelInflight_free, fun _ => cancelInflight_request, fun _ _ => cancelInflight_sequence⟩

theorem transportClose_alive {s : State} (alive : s.eng.session ≠ .destroyed) (err : Option Nat) :
    transportClose err s = (cancelInflight s.shutDown).event (.sessionClosed err) := by
  rcases transportClose_cases err s with ⟨dead, -⟩ | ⟨-, e⟩
  · exact absurd dead alive
  · exact e

theorem transportClose_dead {s : State} (dead : s.eng.session = .destroyed) (err : Option Nat) : transportClose err s = s := by
  rw [transportClose, if_pos dead]

/-- Settles O47: the request is cancelled in the session that is already shut down, and the event comes last. -/
theorem transportCloseDestroys : Obligations.TransportCloseDestroys := by
  refine fun s err => ⟨fun dead => transportClose_dead dead err, fun alive =>
    ⟨fun hf => ?_, fun f hf hq => ?_, fun f q hf hq => ?_⟩⟩
  all_goals rw [transportClose_alive alive]
  · rw [cancelInflight_free (s := s.shutDown) hf]
    rfl
  · rw [cancelInflight_request (s := s.shutDown) hf hq]
    simp [State.shutDown, State.emit, State.setSession, State.setTransportOpen, State.setBootTimerArmed]
  · rw [cancelInflight_sequence (s := s.shutDown) hf hq]
    simp [State.shutDown, State.emit, State.setSession, State.setTransportOpen, State.setBootTimerArmed]

/-- Settles O49. -/
theorem closeAndIsOpenWriteNoState : Obligations.CloseAndIsOpenWriteNoState :=
  fun s => ⟨rfl, rfl, s.eng.usable_iff⟩

end Sys2Proof.Machine
end

section
/-! What a step takes from the list of inputs and runs (48_master_engine R334, R335, R340 to R345; 60_exceptions R381, R385,
R393). -/

namespace Sys2Proof.Machine

theorem step_of_no_input {s : State} (h : s.inputs = []) : step s = .next s := by
  simp only [step, fetch, h]

section
variable {s : State} {rest : List Input}

/-- An input that asks for no instruction leaves the state its fetch gives. -/
theorem step_of_done {x : Input} {t : State} (h : s.inputs = x :: rest) (done : fetchInput x (s.setInputs rest) = .done t) :
    step s = .next t := by
  simp only [step, fetch, h, done]

theorem step_of_decoded {x : Encoded} {i : Instr} (h : s.inputs = .present x :: rest) (decoded : decode s.cfg x = .ok i) :
    step s = exec i (s.setInputs rest) := by
  simp only [step, fetch, h, fetchInput, fetchInstr, State.setInputs_cfg, decoded]

/-- A decode error is delivered and the step ends there (60 R385). -/
theorem step_of_undecodable {x : Encoded} {e : Error} (h : s.inputs = .present x :: rest)
    (raised : decode s.cfg x = .error (.raised e)) : step s = .next (deliverDecodeError x e (s.setInputs rest)) := by
  simp only [step, fetch, h, fetchInput, fetchInstr, State.setInputs_cfg, raised]

end

/-- Settles O25. -/
theorem stepRunsTheDecodedInstruction : Obligations.StepRunsTheDecodedInstruction :=
  fun _ _ _ _ => step_of_decoded

/-- Settles O26. -/
theorem stepRunsThePresentedOperation : Obligations.StepRunsThePresentedOperation := fun _ _ _ _ =>
  ⟨step_of_no_input, (step_of_done · rfl), (step_of_done · rfl), (step_of_done · rfl), (step_of_done · rfl),
    (step_of_done · rfl), (step_of_done · rfl), (step_of_done · rfl)⟩

/-- Settles O27: the three kinds of input that can fail to decode with an error. -/
theorem undecodableInputsAreDelivered : Obligations.UndecodableInputsAreDelivered := by
  refine fun s rest e => ⟨fun f present bad => ?chunk, fun w present bad => ?word, fun k c sh g v present code bad => ?descriptor⟩
  case chunk => exact step_of_undecodable present (by simp only [decode, bad])
  case word => exact step_of_undecodable present (by simp only [decode, bad])
  case descriptor => exact step_of_undecodable present (by simp only [decode, Instr.ofDescriptor, code, bad])

/-- Settles O24, type by type (48 R331). -/
theorem correlatedTypes : Obligations.CorrelatedTypes := by
  intro t
  cases t with
  | send => simp [RequestType.correlated]
  | distinctSend | confQuery | confChange | sequenceEnd | continuousSend | firmwareReset => simp [RequestType.correlated]

end Sys2Proof.Machine
end

section
/-! What a step strobes (48_master_engine R330 to R348): the engine's own operations emit no session event and transmit at most
one frame, in a usable session; the session steps transmit nothing. The claims on the session events and on a destroyed session
rest on this. -/

namespace Sys2Proof.Machine

theorem sessionMarks_append (os os' : List Output) : sessionMarks (os ++ os') = sessionMarks os ++ sessionMarks os' :=
  List.filterMap_append

/-- Strobing the output is neither a transmission nor a session event. -/
def Output.silent (o : Output) : Prop := transmitted [o] = [] ∧ sessionMarks [o] = []

theorem Output.quiet.is_silent {o : Output} (h : o.quiet) : o.silent := by
  refine ⟨h.silent, ?_⟩
  cases o with
  | event e =>
    obtain ⟨notOpen, notClosed⟩ := h
    cases e with
    | sessionOpen => exact absurd rfl notOpen
    | sessionClosed x => exact absurd rfl (notClosed x)
    | _ => rfl
  | _ => rfl

/-! ## Nothing transmitted, no session event -/

/-- From `s` to `t` nothing is transmitted and no session event is emitted. -/
structure State.Silent (s t : State) : Prop where
  frames : transmitted t.outputs = transmitted s.outputs
  marks : sessionMarks t.outputs = sessionMarks s.outputs

theorem State.Silent.refl (s : State) : s.Silent s := ⟨rfl, rfl⟩

section
variable {s t : State} (h : s.Silent t)
include h

/-- Only the outputs count. -/
theorem State.Silent.of_outputs {u : State} (same : u.outputs = t.outputs) : s.Silent u :=
  ⟨by rw [same, h.frames], by rw [same, h.marks]⟩

theorem State.Silent.emit (o : Output) (ho : o.silent := by exact ⟨rfl, rfl⟩) : s.Silent (t.emit o) where
  frames := by rw [State.emit_outputs, transmitted_append, ho.1, List.append_nil, h.frames]
  marks := by rw [State.emit_outputs, sessionMarks_append, ho.2, List.append_nil, h.marks]

theorem State.Silent.newCompletion : s.Silent t.newCompletion := h.of_outputs rfl

theorem State.Silent.setInflight (f : Option InFlight) : s.Silent (t.setInflight f) := h.of_outputs rfl

theorem State.Silent.setSeq (q : Option Sequencer) : s.Silent (t.setSeq q) := h.of_outputs rfl

theorem State.Silent.register (req : FoxtronRequest) : s.Silent (register req t) := h.of_outputs rfl

end

/-! ## At most one frame -/

/-- From `s` to `t` no session event is emitted and at most one frame is transmitted, none if `s` is not usable. -/
structure State.OneFrame (s t : State) : Prop where
  frames : ∃ fs, transmitted t.outputs = transmitted s.outputs ++ fs ∧ fs.length ≤ 1 ∧ (fs ≠ [] → s.eng.usable = true)
  marks : sessionMarks t.outputs = sessionMarks s.outputs

theorem State.Silent.oneFrame {s t : State} (h : s.Silent t) : s.OneFrame t where
  frames := ⟨[], by rw [h.frames, List.append_nil], Nat.zero_le 1, absurd rfl⟩
  marks := h.marks

/-- A usable engine transmits its one frame. -/
theorem State.Silent.tx {s t : State} (h : s.Silent t) (hu : s.eng.usable = true) (f : List Byte) : s.OneFrame (t.tx f) where
  frames := ⟨[f], by rw [State.tx_eq, State.emit_outputs, transmitted_append, h.frames]; rfl, Nat.le_refl 1, fun _ => hu⟩
  marks := by rw [State.tx_eq, State.emit_outputs, sessionMarks_append, h.marks]; exact List.append_nil _

theorem State.OneFrame.emit {s t : State} (h : s.OneFrame t) (o : Output) (ho : o.silent := by exact ⟨rfl, rfl⟩) :
    s.OneFrame (t.emit o) where
  frames := by rw [State.emit_outputs, transmitted_append, ho.1, List.append_nil]; exact h.frames
  marks := by rw [State.emit_outputs, sessionMarks_append, ho.2, List.append_nil, h.marks]

/-- A silent beginning that keeps the frame does not count. -/
theorem State.OneFrame.of_silent {s u t : State} (silent : s.Silent u) (frame : s.Frame u) (h : u.OneFrame t) : s.OneFrame t where
  frames := by rw [← silent.frames, ← frame.usable]; exact h.frames
  marks := h.marks.trans silent.marks

/-- An unusable engine transmits nothing. -/
theorem State.OneFrame.silent_of_unusable {s t : State} (h : s.OneFrame t) (hu : s.eng.usable = false) : s.Silent t := by
  obtain ⟨fs, frames, -, usable⟩ := h.frames
  have none : fs = [] := by
    by_contra some
    simp [hu] at usable
    exact some usable
  exact ⟨by rw [frames, none, List.append_nil], h.marks⟩

/-! ## The operations of the engine -/

theorem callSendCmd_oneFrame (req : FoxtronRequest) (s : State) : s.OneFrame (callSendCmd req s) := by
  have same := State.Silent.refl s
  rcases callSendCmd_cases req s with
    ⟨-, e⟩ | ⟨-, -, -, e⟩ | ⟨hu, -, -, p, -, e⟩ | ⟨-, -, -, e⟩ | ⟨hu, -, p, -, e⟩ <;> rw [e]
  · exact ((same.newCompletion.emit _).emit _).oneFrame
  · exact (same.emit _).oneFrame
  · exact ((same.register req).tx hu _).emit _
  · exact ((same.register req).emit _).oneFrame
  · have sent : s.OneFrame (s.tx (frameOf p)).newCompletion := ⟨(same.tx hu _).frames, (same.tx hu _).marks⟩
    exact (sent.emit _).emit _

theorem seqAdvance_silent (p : SeqPhase) (r : FoxtronResponse) (s : State) : s.Silent (seqAdvance p r s) := by
  have same := State.Silent.refl s
  cases hq : s.eng.seq with
  | none => rw [seqAdvance_idle hq]; exact same
  | some q => rw [seqAdvance_active hq]; exact same.setSeq _

theorem seqFinish_silent (s : State) : s.Silent (seqFinish s) := by
  have same := State.Silent.refl s
  cases hq : s.eng.seq with
  | none => rw [seqFinish_idle hq]; exact same
  | some q => rw [seqFinish_active hq]; exact (same.setSeq none).emit _

/-- An issued command transmits at most its own frame: a continuation runs on an unusable engine only. -/
theorem seqIssue_oneFrame {next : FoxtronResponse → State → State} (hnext : ∀ r (u : State), u.OneFrame (next r u)) (s : State) :
    s.OneFrame (seqIssue next s) := by
  have same := State.Silent.refl s
  cases hq : s.eng.seq with
  | none => rw [seqIssue_idle next hq]; exact same.oneFrame
  | some q =>
    cases hu : s.eng.usable with
    | false =>
      rw [seqIssue_unusable next hu hq]
      exact .of_silent (same.newCompletion.emit _) ((State.Frame.refl s).newCompletion.emit _) (hnext _ _)
    | true =>
      cases hf : s.eng.inflight with
      | none => rw [seqIssue_taken next hu hf hq]; exact (same.register _).tx hu _
      | some f => rw [seqIssue_busy next hu hf hq]; exact ((same.setSeq none).emit _).oneFrame

theorem seqContinueL_oneFrame (r : FoxtronResponse) (s : State) : s.OneFrame (seqContinueL r s) :=
  .of_silent (seqAdvance_silent .l r s) (seqAdvance_frame .l r s) (seqFinish_silent _).oneFrame

theorem seqContinueM_oneFrame (r : FoxtronResponse) (s : State) : s.OneFrame (seqContinueM r s) :=
  .of_silent (seqAdvance_silent .l r s) (seqAdvance_frame .l r s) (seqIssue_oneFrame seqContinueL_oneFrame _)

theorem seqContinueH_oneFrame (r : FoxtronResponse) (s : State) : s.OneFrame (seqContinueH r s) :=
  .of_silent (seqAdvance_silent .m r s) (seqAdvance_frame .m r s) (seqIssue_oneFrame seqContinueM_oneFrame _)

theorem seqContinue_oneFrame (r : FoxtronResponse) (s : State) : s.OneFrame (seqContinue r s) := by
  rcases seqContinue_cases r s with ⟨-, e⟩ | ⟨q, -, -, e⟩ | ⟨q, -, -, e⟩ | ⟨q, -, -, e⟩ <;> rw [e]
  · exact (State.Silent.refl s).oneFrame
  · exact seqContinueH_oneFrame r s
  · exact seqContinueM_oneFrame r s
  · exact seqContinueL_oneFrame r s

theorem setSearchAddress_oneFrame {s : State} (hq : s.eng.seq = none) (v : BitVec 24) : s.OneFrame (setSearchAddress v s) := by
  have started : s.Silent (s.startSearch v) := (State.Silent.refl s).newCompletion.setSeq _
  rw [setSearchAddress_idle hq]
  exact (State.OneFrame.of_silent started (startSearch_frame v s) (seqIssue_oneFrame seqContinueH_oneFrame _)).emit _

theorem completed_silent (r : FoxtronResponse) (f : InFlight) (s : State) : s.Silent (completed r f s) :=
  ((State.Silent.refl s).setInflight none).emit _

/-- A distinct frame has something transmitted only where the sequencer goes on with it (48 R346). -/
theorem distinctRoute_silent_or_continues (r : FoxtronResponse) (s : State) :
    s.Silent (distinctRoute r s) ∨ (∃ q, s.eng.seq = some q) ∧ s.OneFrame (distinctRoute r s) := by
  have same := State.Silent.refl s
  rcases distinctRoute_cases r s with ⟨-, e⟩ | ⟨f, -, -, e⟩ | ⟨f, -, -, -, e⟩ | ⟨f, q, -, -, hq, e⟩ <;> rw [e]
  · exact .inl same
  · exact .inl (same.setInflight _)
  · exact .inl (completed_silent r f s)
  · exact .inr ⟨⟨q, hq⟩, .of_silent (completed_silent r f s) (completed_frame r f s) (seqContinue_oneFrame r _)⟩

theorem cancelInflight_silent (s : State) : s.Silent (cancelInflight s) := by
  have same := State.Silent.refl s
  rcases cancelInflight_cases s with ⟨-, e⟩ | ⟨f, -, -, e⟩ | ⟨f, q, -, -, e⟩ <;> rw [e]
  · exact same
  · exact (same.setInflight none).emit _
  · exact (((same.setInflight none).emit _).setSeq none).emit _

/-! ## The session steps -/

/-- Everything `transportOpen` can do besides the announcement, which comes last: record the transport and start the timer. -/
theorem transportOpen_announces (s : State) :
    transportOpen s = s ∨ s.eng.session ≠ .destroyed ∧ ∃ u, s.Silent u ∧ u.eng.openEmitted = s.eng.openEmitted ∧
      u.eng.session = s.eng.session ∧ (transportOpen s = u ∨ transportOpen s = announceOpen u) := by
  by_cases ignored : s.eng.session = .destroyed ∨ s.eng.transportOpen = true
  · exact .inl (transportOpen_ignored ignored)
  obtain ⟨alive, shut⟩ := not_or.1 ignored
  rw [Bool.not_eq_true] at shut
  have opened : s.Silent (s.setTransportOpen true) := (State.Silent.refl s).of_outputs rfl
  refine .inr ⟨alive, ?_⟩
  cases boot : s.cfg.bootMethod with
  | noBoot =>
    refine ⟨_, opened, rfl, rfl, ?_⟩
    rw [transportOpen_noBoot alive shut boot]
    cases s.cfg.emitOpenWithoutBoot
    · exact .inl rfl
    · exact .inr rfl
  | waitOnly =>
    have armed : s.Silent ((s.setTransportOpen true).setBootTimerArmed true) := opened.of_outputs rfl
    exact ⟨_, armed.emit _, rfl, rfl, .inl (transportOpen_waitOnly alive shut boot)⟩
  | setDTR =>
    have asserted := (opened.emit (.setLine true)).of_outputs
      (u := (((s.setTransportOpen true).emit (.setLine true)).setDtrAsserted true).setBootTimerArmed true) rfl
    exact ⟨_, asserted.emit _, rfl, rfl, .inl (transportOpen_setDTR alive shut boot)⟩

theorem announceOpen_transmitted (s : State) : transmitted (announceOpen s).outputs = transmitted s.outputs := by
  cases ho : s.eng.openEmitted with
  | true => rw [announceOpen_announced ho]
  | false =>
    rw [announceOpen_first ho, State.event_eq, State.emit_outputs, transmitted_append]
    exact List.append_nil _

theorem transportOpen_transmitted (s : State) : transmitted (transportOpen s).outputs = transmitted s.outputs := by
  rcases transportOpen_announces s with e | ⟨-, u, silent, -, -, e | e⟩ <;> rw [e]
  · exact silent.frames
  · rw [announceOpen_transmitted, silent.frames]

theorem timerExpiry_transmitted (s : State) : transmitted (timerExpiry s).outputs = transmitted s.outputs := by
  cases armed : s.eng.bootTimerArmed with
  | false => rw [timerExpiry_unarmed armed]
  | true => rw [timerExpiry_armed armed, announceOpen_transmitted]; rfl

theorem transportClose_transmitted (err : Option Nat) (s : State) :
    transmitted (transportClose err s).outputs = transmitted s.outputs := by
  rcases transportClose_cases err s with ⟨-, e⟩ | ⟨-, e⟩ <;> rw [e]
  rw [State.event_eq, State.emit_outputs, transmitted_append, (cancelInflight_silent s.shutDown).frames]
  exact List.append_nil _

/-! ## What has a frame transmitted -/

/-- The inputs that have the engine transmit (48 R330, R345, R346): a command or a request, a distinct frame with the sequencer
running, a search address with none running. -/
def Input.transmits (s : State) (x : Input) : Prop :=
  (∃ e i, x = .present e ∧ decode s.cfg e = .ok i ∧
    (i.sends = true ∨ ((∃ r, i.distinctFrame r) ∧ ∃ q, s.eng.seq = some q))) ∨
  ((∃ v, x = .setSearchAddress v) ∧ s.eng.seq = none)

/-- A presented instruction is silent, or it is one that has a frame transmitted. -/
theorem ExecShape.silent_or_transmits {i : Instr} {s t : State} (k : ExecShape i s t) :
    s.Silent t ∨ ((i.sends = true ∨ ((∃ r, i.distinctFrame r) ∧ ∃ q, s.eng.seq = some q)) ∧ s.OneFrame t) := by
  have same := State.Silent.refl s
  cases k with
  | one o ho ht => rw [ht]; exact .inl (same.emit o ho.is_silent)
  | two o o' ho ho' ht => rw [ht]; exact .inl ((same.emit o ho.is_silent).emit o' ho'.is_silent)
  | sent req hi ht => rw [ht]; exact .inr ⟨.inl hi, callSendCmd_oneFrame req s⟩
  | routed r hi ht =>
    rw [ht]
    exact (distinctRoute_silent_or_continues r s).imp_right fun ⟨running, frame⟩ => ⟨.inr ⟨⟨r, hi⟩, running⟩, frame⟩

/-- Besides the three session steps, a step keeps the frame, and it is silent or has one frame transmitted for an input that
does so. -/
theorem StepShape.engine_or_session {x : Input} {s t : State} (k : StepShape x s t) :
    (s.Frame t ∧ (s.Silent t ∨ x.transmits s ∧ s.OneFrame t)) ∨
      t = transportOpen s ∨ (∃ err, t = transportClose err s) ∨ t = timerExpiry s := by
  have same := State.Silent.refl s
  cases k with
  | presented e i hx hd k =>
    exact .inl ⟨k.frame, k.silent_or_transmits.imp_right fun ⟨cause, frame⟩ => ⟨.inl ⟨e, i, hx, hd, cause⟩, frame⟩⟩
  | strobed o ho ht => rw [ht]; exact .inl ⟨(State.Frame.refl s).emit o, .inl (same.emit o ho.is_silent)⟩
  | opened hx ht => exact .inr (.inl ht)
  | closed err hx ht => exact .inr (.inr (.inl ⟨err, ht⟩))
  | expired hx ht => exact .inr (.inr (.inr ht))
  | cancelled hx ht => rw [ht]; exact .inl ⟨cancelInflight_frame s, .inl (cancelInflight_silent s)⟩
  | searched v hx ht =>
    rw [ht]
    refine .inl ⟨setSearchAddress_frame v s, ?_⟩
    cases hq : s.eng.seq with
    | some q => rw [setSearchAddress_active hq]; exact .inl (same.emit _)
    | none => exact .inr ⟨.inr ⟨⟨v, hx⟩, hq⟩, setSearchAddress_oneFrame hq v⟩

/-- A step transmits nothing, or one frame for an input that has the engine transmit. -/
theorem StepShape.transmission {x : Input} {s t : State} (k : StepShape x s t) :
    transmitted t.outputs = transmitted s.outputs ∨ (x.transmits s ∧ s.OneFrame t) := by
  rcases k.engine_or_session with ⟨-, silent | sends⟩ | rfl | ⟨err, rfl⟩ | rfl
  · exact .inl silent.frames
  · exact .inr sends
  · exact .inl (transportOpen_transmitted s)
  · exact .inl (transportClose_transmitted err s)
  · exact .inl (timerExpiry_transmitted s)

/-- Settles O58. -/
theorem transmitsOnlyWhenUsable : Obligations.TransmitsOnlyWhenUsable := by
  intro s t hstep
  have nothing (h : transmitted t.outputs = transmitted s.outputs) :
      transmitted t.outputs = transmitted s.outputs ++ [] := by rw [h, List.append_nil]
  rcases step_cases hstep with ⟨-, rfl⟩ | ⟨x, rest, presented, k⟩
  · exact ⟨[], nothing rfl, Nat.zero_le 1, absurd rfl⟩
  rcases k.transmission with silent | ⟨cause, one⟩
  · exact ⟨[], nothing silent, Nat.zero_le 1, absurd rfl⟩
  · obtain ⟨fs, frames, atMost, usable⟩ := one.frames
    exact ⟨fs, frames, atMost, fun some => ⟨usable some, x, rest, presented, cause⟩⟩

/-! ## The session events -/

/-- Where no session event is emitted and neither the record nor the end of the session is written, the events stay sound. -/
theorem State.MarksSound.of_same {s t : State} (h : s.MarksSound) (marks : sessionMarks t.outputs = sessionMarks s.outputs)
    (record : t.eng.openEmitted = s.eng.openEmitted) (ended : t.eng.session = .destroyed ↔ s.eng.session = .destroyed) :
    t.MarksSound := by
  simp only [State.MarksSound, marks, record, ended]
  exact h

theorem State.MarksSound.of_frame {s t : State} (h : s.MarksSound) (frame : s.Frame t)
    (marks : sessionMarks t.outputs = sessionMarks s.outputs) : t.MarksSound :=
  h.of_same marks frame.openEmitted (by rw [frame.session])

/-- A session that is not destroyed may be announced: the first time the event comes first of all. -/
theorem announceOpen_marksSound {s : State} (h : s.MarksSound) (alive : s.eng.session ≠ .destroyed) :
    (announceOpen s).MarksSound := by
  cases ho : s.eng.openEmitted with
  | true => rw [announceOpen_announced ho]; exact h
  | false =>
    rw [announceOpen_first ho]
    have none : sessionMarks s.outputs = [] := by simpa [State.MarksSound, ho, alive] using h
    have announced : sessionMarks ((s.setOpenEmitted true).event .sessionOpen).outputs = [.opened] := by
      rw [State.event_eq, State.emit_outputs, State.setOpenEmitted_outputs, sessionMarks_append, none]
      rfl
    rw [State.MarksSound, announced]
    simp [alive]

theorem transportOpen_marksSound {s : State} (h : s.MarksSound) : (transportOpen s).MarksSound := by
  rcases transportOpen_announces s with e | ⟨alive, u, silent, record, session, e⟩
  · rw [e]; exact h
  have sound : u.MarksSound := h.of_same silent.marks record (by rw [session])
  rcases e with e | e <;> rw [e]
  · exact sound
  · exact announceOpen_marksSound sound (by rwa [session])

/-- The timer runs in a waiting session only, which is not destroyed. -/
theorem timerExpiry_marksSound {s : State} (inv : s.Inv) (h : s.MarksSound) : (timerExpiry s).MarksSound := by
  cases armed : s.eng.bootTimerArmed with
  | false => rw [timerExpiry_unarmed armed]; exact h
  | true =>
    obtain ⟨waiting, -⟩ := inv.timer armed
    rw [timerExpiry_armed armed]
    exact announceOpen_marksSound (h.of_same rfl rfl (by simp [waiting])) (by simp)

/-- The session ends once, and with it comes the one `SessionClosed`. -/
theorem transportClose_marksSound (err : Option Nat) {s : State} (h : s.MarksSound) : (transportClose err s).MarksSound := by
  rcases transportClose_cases err s with ⟨-, e⟩ | ⟨alive, e⟩ <;> rw [e]
  · exact h
  have before : sessionMarks s.outputs = if s.eng.openEmitted then [.opened] else [] := by
    simpa [State.MarksSound, alive] using h
  have frame := cancelInflight_frame s.shutDown
  have marks : sessionMarks (cancelInflight s.shutDown).outputs = sessionMarks s.outputs := (cancelInflight_silent s.shutDown).marks
  have ended : (cancelInflight s.shutDown).eng.session = .destroyed := frame.session
  have record : (cancelInflight s.shutDown).eng.openEmitted = s.eng.openEmitted := frame.openEmitted
  simp only [State.MarksSound, State.event_eq, State.emit_outputs, State.emit_eng, sessionMarks_append, marks, before, ended,
    record, if_true]
  rfl

theorem StepShape.marksSound {x : Input} {s t : State} (inv : s.Inv) (h : s.MarksSound) (k : StepShape x s t) : t.MarksSound := by
  rcases k.engine_or_session with ⟨frame, silent | ⟨-, one⟩⟩ | rfl | ⟨err, rfl⟩ | rfl
  · exact h.of_frame frame silent.marks
  · exact h.of_frame frame one.marks
  · exact transportOpen_marksSound h
  · exact transportClose_marksSound err h
  · exact timerExpiry_marksSound inv h

/-- Settles O57: only the session steps emit a session event, each with the record or the session it writes. -/
theorem sessionEventsAtMostOnce : Obligations.SessionEventsAtMostOnce := by
  intro s t inv h hstep
  rcases step_cases hstep with ⟨-, rfl⟩ | ⟨x, rest, -, k⟩
  · exact h
  · exact k.marksSound (inv.setInputs rest) (h.of_same rfl rfl Iff.rfl)

end Sys2Proof.Machine
end

section
/-! A command or a request given to `sendCmd`, by whether the session is usable (48_master_engine R330 to R334). -/

namespace Sys2Proof.Machine

/-- A command runs by its operands, whichever of the 72 it is. -/
theorem exec_of_command {i : Instr} {d : CommandDesc} (h : i.presented = .command d) (s : State) :
    exec i s = .next (runCommand d.code d.address d.value s) := by
  cases i with
  | send | distinctSend | continuousSend | confQuery | confChange | sequenceEnd | firmwareReset => cases h
  | response | distinctResponse | noResponse | distinctNoResponse => cases h
  | confResponse | confChangeAck | specReceived | firmwareResetAck => cases h
  | _ a v => cases h; rfl

theorem runCommand_ok {d : CommandDesc} {c : DALICommand} {s : State} (h : d.construct s.cfg = .ok c) :
    runCommand d.code d.address d.value s = callSendCmd (bareRequest c) s := by
  rw [CommandDesc.construct] at h
  rw [runCommand, h]

/-- What the caller sends, its operands accepted, is given to `sendCmd`. -/
theorem exec_of_sends {i : Instr} {s : State} (sends : i.sends = true) (accepted : i.constructs s.cfg) :
    ∃ req, exec i s = .next (callSendCmd req s) := by
  rcases exec_cases i s with ⟨d, e, operands, refused, -⟩ | ⟨req, -, -, h⟩ | ⟨-, -, frame, -⟩ | ⟨r, distinct, -⟩
  · obtain ⟨c, ok⟩ := accepted d operands
    simp [refused] at ok
  · exact ⟨req, h⟩
  · simp [sends] at frame
  · rcases distinct with ⟨x, rfl, -⟩ | ⟨x, rfl, -⟩ <;> simp [Instr.sends, Instr.presented] at sends

theorem callSendCmd_unusable {s : State} (hu : s.eng.usable = false) (req : FoxtronRequest) :
    callSendCmd req s = s.answeringNotOpen := by
  simp [callSendCmd, sendCmd_unusable hu, State.answeringNotOpen, State.newCompletion, State.emit, channelNotOpenResponse]

/-- Settles O40. -/
theorem unusableSessionAnswersNotOpen : Obligations.UnusableSessionAnswersNotOpen := by
  intro s i hu sends accepted
  obtain ⟨req, sent⟩ := exec_of_sends sends accepted
  rw [sent, callSendCmd_unusable hu]

/-- The echo count, an absent `doubleSend` counting as false (48 R332). -/
theorem echoes_eq (ds : Option Bool) : (if ds.getD false then 2 else 1) = if ds = some true then 2 else 1 := by
  cases ds with
  | none => rfl
  | some b => cases b <;> rfl

/-- Settles O36: the bare command, and the five requests by their payloads. -/
theorem correlatedRequestsAreTaken : Obligations.CorrelatedRequestsAreTaken := by
  intro s d c p ds q i x hu hf made
  have taken {req : FoxtronRequest} {fields : HexString} (hc : req.type.correlated = true) (hd : req.doubled = ds.getD false)
      (hp : payload s.cfg req = .ok fields) : callSendCmd req s = s.taking req (if ds = some true then 2 else 1) fields := by
    rw [callSendCmd_taking hu hf hc hp, hd, echoes_eq]
  refine ⟨fun j command => ?command, ?distinctSend, ?continuousSend, ?confQuery, ?confChange, ?sequenceEnd⟩
  case command => rw [exec_of_command command, runCommand_ok made, callSendCmd_bareRequest hu hf]
  case distinctSend =>
    have fields : payload s.cfg (.distinctSend c p ds q) = .ok (hex2 (s.cfg.reqTypeCode .distinctSend) ++ hex2 (priorityByte p) ++
        hex2 0x10 ++ hex4 (toBytecode s.cfg c) ++
        hex2 (BitVec.ofNat 8 ((if ds = some true then 1 else 0) + (if q = some true then 2 else 0)))) := by
      simp only [payload, wordFields, distinctParameter_sum, List.append_assoc]
    exact congrArg Host.Outcome.next ((runCommandRequest_ok made _).trans (taken rfl rfl fields))
  case continuousSend =>
    exact congrArg Host.Outcome.next ((runCommandRequest_ok made _).trans (taken rfl rfl rfl))
  case confQuery => exact congrArg Host.Outcome.next (taken rfl rfl rfl)
  case confChange => exact congrArg Host.Outcome.next (taken rfl rfl rfl)
  case sequenceEnd => exact congrArg Host.Outcome.next (taken rfl rfl rfl)

end Sys2Proof.Machine
end

section
/-! Inbound frames: the six unsolicited types (48_master_engine R338), the distinct frames (R336), and a double-send answered by
two of them (R332). -/

namespace Sys2Proof.Machine

theorem unsolicitedRoute_eq (ev : FoxtronResponse → Event) (r : FoxtronResponse) (s : State) :
    unsolicitedRoute ev r s = s.emitting [.event (ev r), .event (.evAnyResponse r)] := by
  simp [unsolicitedRoute, State.emit, State.emitting]

/-- Settles O41: the routing is the same for the six types. -/
theorem unsolicitedFramesBecomeEvents : Obligations.UnsolicitedFramesBecomeEvents := by
  intro s
  have routed (ev : FoxtronResponse → Event) (r : FoxtronResponse) :
      (.next (unsolicitedRoute ev r s) : Host.Outcome State Fault Refusal) =
        .next (s.emitting [.event (ev r), .event (.evAnyResponse r)]) := by
    rw [unsolicitedRoute_eq]
  exact ⟨fun r => routed .evResponse (.response r), fun r => routed .evNoResponse (.noResponse r),
    fun i d => routed .evConfResponse (.confResponse i d), fun i d k => routed .evConfChangeAck (.confChangeAck i d k),
    fun m => routed .evSpecReceived (.specReceived m), routed .evFirmwareResetAck .firmwareResetAck⟩

theorem exec_of_distinctFrame {i : Instr} {r : FoxtronResponse} (h : i.distinctFrame r) (s : State) :
    exec i s = .next (distinctRoute r s) := by
  rcases h with ⟨x, rfl, rfl⟩ | ⟨x, rfl, rfl⟩ <;> rfl

section
variable {s : State} (r : FoxtronResponse)

theorem distinctRoute_dropped (hf : s.eng.inflight = none) : distinctRoute r s = s := by
  rw [distinctRoute, hf]

theorem distinctRoute_held {f : InFlight} (hf : s.eng.inflight = some f) (two : f.remainingEchoes = 2) :
    distinctRoute r s = s.setInflight (some { f with remainingEchoes := 1 }) := by
  simp [distinctRoute, hf, two]

theorem distinctRoute_last {f : InFlight} (hf : s.eng.inflight = some f) (one : f.remainingEchoes = 1) :
    distinctRoute r s = seqContinue r (completed r f s) := by
  simp [distinctRoute, hf, one, completed]

end

theorem seqContinue_idle {s : State} (hq : s.eng.seq = none) (r : FoxtronResponse) : seqContinue r s = s := by
  rw [seqContinue, hq]

/-- Settles O42, by the echoes that remain. -/
theorem distinctFramesCountEchoes : Obligations.DistinctFramesCountEchoes := by
  intro s i r distinct
  rw [exec_of_distinctFrame distinct]
  refine ⟨fun hf => ?dropped, fun f hf two => ?held, fun f hf one hq => ?completes⟩
  case dropped => rw [distinctRoute_dropped r hf]
  case held => rw [distinctRoute_held r hf two]; rfl
  case completes =>
    rw [distinctRoute_last r hf one, seqContinue_idle (s := completed r f s) hq]
    rfl

/-- Settles O44: the request is taken with two echoes expected, the first frame leaves one, the second completes it. -/
theorem doubleSendWaitsForTwoEchoes : Obligations.DoubleSendWaitsForTwoEchoes := by
  intro s d c p q i j x y hu idle made first second
  obtain ⟨hf, hq⟩ : s.eng.inflight = none ∧ s.eng.seq = none := by simpa [Engine.idle] using idle
  obtain ⟨-, taken, -⟩ := correlatedRequestsAreTaken s d c p (some true) q 0 0 hu hf made
  obtain ⟨-, held, -⟩ := distinctFramesCountEchoes _ i x first
  obtain ⟨-, -, completes⟩ := distinctFramesCountEchoes _ j y second
  refine ⟨_, _, _, taken, held _ rfl rfl, completes _ rfl rfl hq, rfl, rfl, rfl, ?_⟩
  simp [State.taking, ← hf]

end Sys2Proof.Machine
end

section
/-! The search-address sequencer (48_master_engine R345 to R347): what goes out in each phase, and the whole sequence. -/

namespace Sys2Proof.Machine

/-! ## The word of a search-address byte -/

/-- The three codes of a search address carry a byte, by the source's own cells (40 R123). -/
theorem search_cmdType {cfg : Config} (h : cfg.wf = true) {c : Code}
    (hc : c ∈ [Code.searchAddressH, .searchAddressM, .searchAddressL]) :
    cmdValueType cfg c = .random := by
  have cells : cfg.sourceCells = true := by
    simp only [Config.wf, Config.tablesWf, Bool.and_eq_true] at h
    tauto
  simp only [Config.sourceCells, Bool.and_eq_true] at cells
  obtain ⟨⟨⟨⟨⟨-, search⟩, -⟩, -⟩, -⟩, -⟩ := cells
  simpa using List.all_eq_true.1 search c hc

/-- The address byte of a special command, computed from its number (30 R71). -/
theorem specialByte_eq_ofInt {n : Nat} (h : 256 ≤ n) : specialByte n = BitVec.ofInt 8 (0xA1 + 2 * ((n : Int) - 256)) := by
  have cast : (0xA1 + 2 * ((n : Int) - 256)) = ((0xA1 + 2 * (n - 256) : Nat) : Int) := by omega
  rw [specialByte, cast, BitVec.ofInt_natCast]

/-- A search-address command's word is its number's address byte and the byte it carries. -/
theorem toBytecode_search {cfg : Config} (h : cfg.wf = true) {c : Code}
    (hc : c ∈ [Code.searchAddressH, .searchAddressM, .searchAddressL]) (b : Byte) :
    toBytecode cfg ⟨c, none, some b⟩ = searchWord cfg c b := by
  have special : c.isSpecial = true := by
    simp only [List.mem_cons, List.not_mem_nil, or_false] at hc
    rcases hc with rfl | rfl | rfl <;> rfl
  obtain ⟨r, hr⟩ := (isSpecial_iff cfg c).1 special
  have carries : r.cmdType = .random := (cmdValueType_special hr).symm.trans (search_cmdType h hc)
  obtain ⟨low, -⟩ := special_range h hr
  rw [toBytecode_data hr (.inr carries), searchWord, Config.number, hr, CodeRow.number, specialByte_eq_ofInt low]

/-! ## One move of the sequencer -/

/-- The state in which the sequencer, now at `q`, has its command in flight (48 R345). -/
def State.issuing (s : State) (q : Sequencer) : State := { s with
  eng := { s.eng with inflight := some ⟨bareRequest (searchCommand q.phase q.value), 1, s.nextCompletion⟩, seq := some q }
  nextCompletion := s.nextCompletion + 1
  outputs := s.outputs ++ [.tx (frameOf (barePayload s.cfg (toBytecode s.cfg (searchCommand q.phase q.value))))] }

theorem seqIssue_setSeq {s : State} (next : FoxtronResponse → State → State) (hu : s.eng.usable = true)
    (hf : s.eng.inflight = none) (q : Sequencer) : seqIssue next (s.setSeq (some q)) = s.issuing q :=
  seqIssue_taken (s := s.setSeq (some q)) next hu hf rfl

theorem seqContinueL_active {s : State} {q : Sequencer} (r : FoxtronResponse) (hq : s.eng.seq = some q) :
    seqContinueL r s = (s.setSeq none).resolve q.completion (.responses (q.results ++ [r])) := by
  rw [seqContinueL, seqAdvance_active hq, seqFinish_active rfl]
  rfl

section
variable {s : State} {i : Instr} {r : FoxtronResponse} {f : InFlight} {q : Sequencer} (distinct : i.distinctFrame r)
  (hf : s.eng.inflight = some f) (one : f.remainingEchoes = 1)
include distinct hf one

/-- The last echo completes the request, and the sequencer goes on with it. -/
theorem exec_last_echo : exec i s = .next (seqContinue r (completed r f s)) := by
  rw [exec_of_distinctFrame distinct, distinctRoute_last r hf one]

variable (hq : s.eng.seq = some q)
include hq

theorem exec_echo_phaseH (hu : s.eng.usable = true) (phase : q.phase = .h) :
    exec i s = .next ((completed r f s).issuing ⟨.m, q.value, q.results ++ [r], q.completion⟩) := by
  have running : (completed r f s).eng.seq = some q := hq
  rw [exec_last_echo distinct hf one]
  simp only [seqContinue, running, phase, seqContinueH, seqAdvance_active running]
  exact congrArg Host.Outcome.next (seqIssue_setSeq (s := completed r f s) _ hu rfl _)

theorem exec_echo_phaseM (hu : s.eng.usable = true) (phase : q.phase = .m) :
    exec i s = .next ((completed r f s).issuing ⟨.l, q.value, q.results ++ [r], q.completion⟩) := by
  have running : (completed r f s).eng.seq = some q := hq
  rw [exec_last_echo distinct hf one]
  simp only [seqContinue, running, phase, seqContinueM, seqAdvance_active running]
  exact congrArg Host.Outcome.next (seqIssue_setSeq (s := completed r f s) _ hu rfl _)

theorem exec_echo_phaseL (phase : q.phase = .l) :
    exec i s = .next (((completed r f s).setSeq none).resolve q.completion (.responses (q.results ++ [r]))) := by
  have running : (completed r f s).eng.seq = some q := hq
  rw [exec_last_echo distinct hf one]
  simp only [seqContinue, running, phase, seqContinueL_active r running]

end

/-- Settles O43, phase by phase. -/
theorem sequencerAdvancesOnTheEcho : Obligations.SequencerAdvancesOnTheEcho := by
  intro s i r f q distinct hwf hu hf one hq
  refine ⟨fun phase => ?h, fun phase => ?m, fun phase => ?l⟩
  case h =>
    have word := toBytecode_search hwf (c := .searchAddressM) (by decide)
    rw [exec_echo_phaseH distinct hf one hq hu phase]
    simp [State.issuing, completed, searchCommand, bareRequest, State.emit, State.setInflight, word]
  case m =>
    have word := toBytecode_search hwf (c := .searchAddressL) (by decide)
    rw [exec_echo_phaseM distinct hf one hq hu phase]
    simp [State.issuing, completed, searchCommand, bareRequest, State.emit, State.setInflight, word]
  case l =>
    rw [exec_echo_phaseL distinct hf one hq phase]
    simp [completed, State.emit, State.setInflight, State.setSeq]

/-! ## `setSearchAddress` -/

theorem setSearchAddress_starts {s : State} (hu : s.eng.usable = true) (hf : s.eng.inflight = none) (hq : s.eng.seq = none)
    (v : BitVec 24) :
    setSearchAddress v s = (s.newCompletion.issuing ⟨.h, v, [], s.nextCompletion⟩).giveBack s.nextCompletion := by
  rw [setSearchAddress_idle hq, State.startSearch, seqIssue_setSeq (s := s.newCompletion) _ hu hf]

/-- The state in which an unusable session has answered an inner `sendCmd` (48 R330). -/
def State.answered (s : State) : State := s.newCompletion.resolve s.nextCompletion (.response channelNotOpenResponse)

section
variable {s : State} (hu : s.eng.usable = false)
include hu

theorem seqIssue_answered (next : FoxtronResponse → State → State) (q : Sequencer) :
    seqIssue next (s.setSeq (some q)) = next channelNotOpenResponse (s.answered.setSeq (some q)) :=
  seqIssue_unusable (s := s.setSeq (some q)) next hu rfl

theorem seqContinueM_unusable {q : Sequencer} (r : FoxtronResponse) (hq : s.eng.seq = some q) :
    seqContinueM r s =
      (s.answered.setSeq none).resolve q.completion (.responses (q.results ++ [r] ++ [channelNotOpenResponse])) := by
  rw [seqContinueM, seqAdvance_active hq, seqIssue_answered hu,
    seqContinueL_active (s := s.answered.setSeq _) _ rfl]
  rfl

theorem seqContinueH_unusable {q : Sequencer} (r : FoxtronResponse) (hq : s.eng.seq = some q) :
    seqContinueH r s = (s.answered.answered.setSeq none).resolve q.completion
      (.responses (q.results ++ [r] ++ [channelNotOpenResponse] ++ [channelNotOpenResponse])) := by
  rw [seqContinueH, seqAdvance_active hq, seqIssue_answered hu,
    seqContinueM_unusable (s := s.answered.setSeq (some ⟨.m, q.value, q.results ++ [r], q.completion⟩)) hu _ rfl]
  rfl

/-- On an unusable session the three inner completions and the caller's fire at once (48 R345). -/
theorem setSearchAddress_unusable (hq : s.eng.seq = none) (v : BitVec 24) :
    setSearchAddress v s = (((s.newCompletion.answered.answered.answered.setSeq none).resolve s.nextCompletion
      (.responses [channelNotOpenResponse, channelNotOpenResponse, channelNotOpenResponse])).giveBack s.nextCompletion) := by
  rw [setSearchAddress_idle hq, State.startSearch, seqIssue_answered (s := s.newCompletion) hu,
    seqContinueH_unusable (s := s.newCompletion.answered.setSeq (some ⟨.h, v, [], s.nextCompletion⟩)) hu _ rfl]
  rfl

end

/-- Settles O50. -/
theorem setSearchAddressStarts : Obligations.SetSearchAddressStarts := by
  intro s v
  refine ⟨fun q running => ?running, fun hq => ⟨fun hwf hu hf => ?starts, fun f hu hf => ?busy, fun hu => ?unusable⟩⟩
  case running => exact setSearchAddress_active running v
  case starts =>
    have word := toBytecode_search hwf (c := .searchAddressH) (by decide)
    rw [setSearchAddress_starts hu hf hq]
    simp [State.issuing, searchCommand, bareRequest, State.newCompletion, State.emit, word]
  case busy =>
    rw [setSearchAddress_idle hq, seqIssue_busy (s := s.startSearch v) _ hu hf rfl]
    simp [State.startSearch, State.newCompletion, State.setSeq, State.emit, ← hq]
  case unusable =>
    rw [setSearchAddress_unusable hu hq]
    simp [State.answered, State.newCompletion, State.setSeq, State.emit, channelNotOpenResponse, ← hq]

/-! ## The whole sequence -/

theorem State.Frame.eng_eq {s t : State} (h : s.Frame t) (slot : t.eng.inflight = s.eng.inflight) (seq : t.eng.seq = s.eng.seq) :
    t.eng = s.eng := by
  obtain ⟨-, -, session, opened, armed, record, dtr, -, -⟩ := h
  cases ht : t.eng
  cases hs : s.eng
  simp_all

/-- The frame of the search-address byte of a phase. -/
def searchFrame (cfg : Config) (p : SeqPhase) (v : BitVec 24) : List Byte :=
  frameOf (barePayload cfg (toBytecode cfg (searchCommand p v)))

/-- The sequencer runs, now at `q`, and its command is in flight on a usable engine with one echo expected. -/
structure State.Searching (s : State) (q : Sequencer) : Prop where
  usable : s.eng.usable = true
  slot : ∃ f, s.eng.inflight = some f ∧ f.remainingEchoes = 1
  seq : s.eng.seq = some q

theorem State.issuing_searching {s : State} (hu : s.eng.usable = true) (q : Sequencer) : (s.issuing q).Searching q :=
  ⟨hu, ⟨_, rfl, rfl⟩, rfl⟩

theorem transmitted_issuing (s : State) (q : Sequencer) :
    transmitted (s.issuing q).outputs = transmitted s.outputs ++ [searchFrame s.cfg q.phase q.value] :=
  transmitted_append _ _

theorem setSearchAddress_searching {s : State} (hu : s.eng.usable = true) (hf : s.eng.inflight = none) (hq : s.eng.seq = none)
    (v : BitVec 24) :
    (setSearchAddress v s).Searching ⟨.h, v, [], s.nextCompletion⟩ ∧
    transmitted (setSearchAddress v s).outputs = transmitted s.outputs ++ [searchFrame s.cfg .h v] := by
  rw [setSearchAddress_starts hu hf hq]
  obtain ⟨usable, slot, seq⟩ := State.issuing_searching (s := s.newCompletion) hu ⟨.h, v, [], s.nextCompletion⟩
  exact ⟨⟨usable, slot, seq⟩, ((State.Silent.refl _).emit _).frames.trans (transmitted_issuing s.newCompletion _)⟩

section
variable {s : State} {i : Instr} {r : FoxtronResponse} {v : BitVec 24} {rs : List FoxtronResponse} {n : Nat}
  (distinct : i.distinctFrame r)
include distinct

/-- An echo in phase H or M: the next byte goes out. -/
theorem State.Searching.moves {p p' : SeqPhase} (run : s.Searching ⟨p, v, rs, n⟩)
    (next : p = .h ∧ p' = .m ∨ p = .m ∧ p' = .l) :
    ∃ t, exec i s = .next t ∧ t.Searching ⟨p', v, rs ++ [r], n⟩ ∧
      transmitted t.outputs = transmitted s.outputs ++ [searchFrame s.cfg p' v] := by
  obtain ⟨hu, ⟨f, hf, one⟩, hq⟩ := run
  have issued : exec i s = .next ((completed r f s).issuing ⟨p', v, rs ++ [r], n⟩) := by
    rcases next with ⟨rfl, rfl⟩ | ⟨rfl, rfl⟩
    · exact exec_echo_phaseH (q := ⟨.h, v, rs, n⟩) distinct hf one hq hu rfl
    · exact exec_echo_phaseM (q := ⟨.m, v, rs, n⟩) distinct hf one hq hu rfl
  have before := (completed_silent r f s).frames
  exact ⟨_, issued, State.issuing_searching (s := completed r f s) hu _, by rw [transmitted_issuing, before]; rfl⟩

/-- The echo in phase L ends the sequence, and the caller's completion comes last. -/
theorem State.Searching.ends (run : s.Searching ⟨.l, v, rs, n⟩) :
    ∃ t, exec i s = .next t ∧ t.eng.inflight = none ∧ t.eng.seq = none ∧ transmitted t.outputs = transmitted s.outputs ∧
      t.outputs.getLast? = some (.resolve n (.responses (rs ++ [r]))) := by
  obtain ⟨-, ⟨f, hf, one⟩, hq⟩ := run
  refine ⟨_, exec_echo_phaseL distinct hf one hq rfl, rfl, rfl, ?_, ?_⟩
  · exact (((completed_silent r f s).setSeq none).emit _).frames
  · rw [State.resolve_eq, State.emit_outputs, List.getLast?_concat]

end

/-- Settles O51: the call sends H, and each of the three echoes moves the sequence on. -/
theorem searchAddressGoesOutInThreeBytes : Obligations.SearchAddressGoesOutInThreeBytes := by
  intro s v i j k x y z hwf hu idle first second third
  obtain ⟨hf, hq⟩ : s.eng.inflight = none ∧ s.eng.seq = none := by simpa [Engine.idle] using idle
  obtain ⟨atH, sentH⟩ := setSearchAddress_searching hu hf hq v
  obtain ⟨t, stepH, atM, sentM⟩ := atH.moves first (.inl ⟨rfl, rfl⟩)
  obtain ⟨u, stepM, atL, sentL⟩ := atM.moves second (.inr ⟨rfl, rfl⟩)
  obtain ⟨w, stepL, slot, seq, sentNone, last⟩ := atL.ends third
  have frameH := setSearchAddress_frame v s
  have frameM := frameH.trans (exec_frame stepH)
  have frameL := (frameM.trans (exec_frame stepM)).trans (exec_frame stepL)
  refine ⟨t, u, w, stepH, stepM, stepL, frameL.eng_eq (slot.trans hf.symm) (seq.trans hq.symm), ?_, last⟩
  have word {c : Code} := toBytecode_search (c := c) hwf
  rw [sentNone, sentL, sentM, sentH, frameH.cfg, frameM.cfg]
  simp [searchFrame, searchCommand, word]

end Sys2Proof.Machine
end

section
/-! A destroyed session (48_master_engine R342, 60_exceptions R390): no input writes the engine state. -/

namespace Sys2Proof.Machine

section
variable {s : State} (inv : s.Inv) (dead : s.eng.session = .destroyed)
include inv dead

theorem State.Inv.dead_idle : s.eng.usable = false ∧ s.eng.inflight = none ∧ s.eng.seq = none := by
  obtain ⟨-, free, -⟩ := inv.destroyed dead
  exact ⟨by simp [Engine.usable, dead], free, inv.seq_idle free⟩

/-- In a destroyed session the request slot, the sequencer and the timer hold nothing a step could act on. -/
theorem StepShape.dead_eng {x : Input} {t : State} (k : StepShape x s t) : t.eng = s.eng := by
  obtain ⟨hu, hf, hq⟩ := inv.dead_idle dead
  obtain ⟨-, -, unarmed⟩ := inv.destroyed dead
  cases k with
  | presented e i hx hd k =>
    cases k with
    | one o ho ht => rw [ht]; rfl
    | two o o' ho ho' ht => rw [ht]; rfl
    | sent req hi ht => rw [ht, callSendCmd_unusable hu]; rfl
    | routed r hi ht => rw [ht, distinctRoute_dropped r hf]
  | strobed o ho ht => rw [ht]; rfl
  | opened hx ht => rw [ht, transportOpen_ignored (.inl dead)]
  | closed err hx ht => rw [ht, transportClose_dead dead]
  | expired hx ht => rw [ht, timerExpiry_unarmed unarmed]
  | cancelled hx ht => rw [ht, cancelInflight_free hf]
  | searched v hx ht =>
    rw [ht, setSearchAddress_unusable hu hq]
    show { s.eng with seq := none } = s.eng
    rw [← hq]

/-- A destroyed session transmits nothing, being unusable, and its session steps do nothing. -/
theorem StepShape.dead_silent {x : Input} {t : State} (k : StepShape x s t) : s.Silent t := by
  obtain ⟨hu, -, -⟩ := inv.dead_idle dead
  obtain ⟨-, -, unarmed⟩ := inv.destroyed dead
  rcases k.engine_or_session with ⟨-, silent | ⟨-, one⟩⟩ | rfl | ⟨err, rfl⟩ | rfl
  · exact silent
  · exact one.silent_of_unusable hu
  · rw [transportOpen_ignored (.inl dead)]; exact .refl s
  · rw [transportClose_dead dead]; exact .refl s
  · rw [timerExpiry_unarmed unarmed]; exact .refl s

end

/-- Settles O59. -/
theorem destroyedIsAbsorbing : Obligations.DestroyedIsAbsorbing := by
  intro s t inv dead hstep
  obtain ⟨hu, hf, -⟩ := inv.dead_idle dead
  rcases step_cases hstep with ⟨-, rfl⟩ | ⟨x, rest, -, k⟩
  · exact ⟨rfl, hu, hf, rfl, rfl⟩
  have inv' := inv.setInputs rest
  have same : t.eng = s.eng := k.dead_eng inv' dead
  have silent := k.dead_silent inv' dead
  exact ⟨same, by rw [same, hu], by rw [same, hf], silent.frames, silent.marks⟩

end Sys2Proof.Machine
end

section
/-! Single firing (60_exceptions R386): every completion made stands once in the ledger of the fired and the pending ones. An
operation makes a fresh one or moves one from pending to fired, so the ledger never holds a number twice. -/

namespace Sys2Proof.Machine

/-! ## The ledger -/

/-- The completions still pending: of the slot and of the sequencer (10_state R27, R31). -/
def State.pending (s : State) : List Nat :=
  (s.eng.inflight.map InFlight.completion).toList ++ (s.eng.seq.map Sequencer.completion).toList

/-- The completions that have fired, then the pending ones. -/
def State.ledger (s : State) : List Nat := fired s.outputs ++ s.pending

theorem State.mem_pending {s : State} {c : Nat} :
    c ∈ s.pending ↔ (∃ f, s.eng.inflight = some f ∧ f.completion = c) ∨ (∃ q, s.eng.seq = some q ∧ q.completion = c) := by
  simp [State.pending]

/-- The slot and the sequencer wait for different completions. -/
theorem State.pending_nodup {s : State} :
    s.pending.Nodup ↔ ∀ f q, s.eng.inflight = some f → s.eng.seq = some q → f.completion ≠ q.completion := by
  cases hf : s.eng.inflight <;> cases hq : s.eng.seq <;> simp [State.pending, hf, hq]

/-- Single firing says of the ledger that no number stands in it twice and all have been made. -/
theorem State.fireOnce_iff {s : State} : s.FireOnce ↔ s.ledger.Nodup ∧ ∀ c ∈ s.ledger, c < s.nextCompletion := by
  constructor
  · rintro ⟨once, made, slot, sequence, apart⟩
    have waiting : ∀ c ∈ s.pending, c ∉ fired s.outputs ∧ c < s.nextCompletion := by
      intro c hc
      rcases State.mem_pending.1 hc with ⟨f, hf, rfl⟩ | ⟨q, hq, rfl⟩
      · exact slot f hf
      · exact sequence q hq
    refine ⟨List.nodup_append'.2 ⟨once, State.pending_nodup.2 apart, fun c hc hp => (waiting c hp).1 hc⟩, fun c hc => ?_⟩
    rcases List.mem_append.1 hc with old | new
    · exact made c old
    · exact (waiting c new).2
  · rintro ⟨nodup, made⟩
    obtain ⟨once, apart, disjoint⟩ := List.nodup_append'.1 nodup
    have waiting {c : Nat} (hc : c ∈ s.pending) : c ∉ fired s.outputs ∧ c < s.nextCompletion :=
      ⟨fun old => disjoint old hc, made c (List.mem_append_right _ hc)⟩
    exact ⟨once, fun c hc => made c (List.mem_append_left _ hc), fun f hf => waiting (State.mem_pending.2 (.inl ⟨f, hf, rfl⟩)),
      fun q hq => waiting (State.mem_pending.2 (.inr ⟨q, hq, rfl⟩)), State.pending_nodup.1 apart⟩

theorem fired_append (os os' : List Output) : fired (os ++ os') = fired os ++ fired os' :=
  List.filterMap_append

/-! ## Rules of the invariant -/

section
variable {s t : State} (h : s.FireOnce)
include h

/-- Where no completion is made, the ledger may be reordered: a pending completion fires. -/
theorem State.FireOnce.of_perm (same : t.ledger.Perm s.ledger) (next : t.nextCompletion = s.nextCompletion) : t.FireOnce := by
  obtain ⟨nodup, made⟩ := State.fireOnce_iff.1 h
  refine State.fireOnce_iff.2 ⟨same.nodup_iff.2 nodup, fun c hc => ?_⟩
  rw [next]
  exact made c (same.mem_iff.1 hc)

/-- A new completion has a number that is not yet in the ledger. -/
theorem State.FireOnce.of_fresh (fresh : t.ledger.Perm (s.nextCompletion :: s.ledger))
    (next : t.nextCompletion = s.nextCompletion + 1) : t.FireOnce := by
  obtain ⟨nodup, made⟩ := State.fireOnce_iff.1 h
  have unused : s.nextCompletion ∉ s.ledger := fun old => Nat.lt_irrefl _ (made _ old)
  refine State.fireOnce_iff.2 ⟨fresh.nodup_iff.2 (List.nodup_cons.2 ⟨unused, nodup⟩), fun c hc => ?_⟩
  rw [next]
  rcases List.mem_cons.1 (fresh.mem_iff.1 hc) with rfl | old
  · exact Nat.lt_succ_self _
  · exact Nat.lt_succ_of_lt (made c old)

/-- The invariant reads the outputs, the slot, the sequencer and the counter only. -/
theorem State.FireOnce.of_same (outputs : t.outputs = s.outputs) (slot : t.eng.inflight = s.eng.inflight)
    (seq : t.eng.seq = s.eng.seq) (next : t.nextCompletion = s.nextCompletion) : t.FireOnce :=
  h.of_perm (.of_eq (by simp only [State.ledger, State.pending, outputs, slot, seq])) next

/-- A strobe that fires no completion. -/
theorem State.FireOnce.emit (o : Output) (mute : fired [o] = [] := by rfl) : (s.emit o).FireOnce :=
  h.of_perm (.of_eq (by simp [State.ledger, State.pending, fired_append, mute])) rfl

/-- A new completion that fires at once (48 R330, R333). -/
theorem State.FireOnce.answer (r : Resolution) : (s.newCompletion.resolve s.nextCompletion r).FireOnce := by
  refine h.of_fresh ?_ rfl
  have now : fired [.resolve s.nextCompletion r] = [s.nextCompletion] := rfl
  simp [State.ledger, State.pending, fired_append, now]

/-- A new completion that waits in the free slot (48 R332). -/
theorem State.FireOnce.register (free : s.eng.inflight = none) (req : FoxtronRequest) : (register req s).FireOnce := by
  refine h.of_fresh ?_ rfl
  simp [State.ledger, State.pending, Machine.register, free]

/-- A new completion that waits in the idle sequencer (48 R345). -/
theorem State.FireOnce.startSearch (idle : s.eng.seq = none) (v : BitVec 24) : (s.startSearch v).FireOnce := by
  refine h.of_fresh ?_ rfl
  simp [State.ledger, State.pending, State.startSearch, idle, ← List.append_assoc]

/-- The completion of the slot fires as the slot is freed. -/
theorem State.FireOnce.fireSlot {f : InFlight} (slot : s.eng.inflight = some f) {o : Output}
    (fires : fired [o] = [f.completion] := by rfl) : ((s.setInflight none).emit o).FireOnce :=
  h.of_perm (.of_eq (by simp [State.ledger, State.pending, slot, fired_append, fires])) rfl

/-- The completion of the sequencer fires as the sequencer goes idle. -/
theorem State.FireOnce.fireSeq {q : Sequencer} (seq : s.eng.seq = some q) {o : Output}
    (fires : fired [o] = [q.completion] := by rfl) : ((s.setSeq none).emit o).FireOnce := by
  refine h.of_perm ?_ rfl
  simpa [State.ledger, State.pending, seq, fired_append, fires] using (List.perm_append_singleton _ _).symm.append_left _

/-- The slot is written for the completion it already holds. -/
theorem State.FireOnce.setInflight {f g : InFlight} (slot : s.eng.inflight = some f) (same : g.completion = f.completion) :
    (s.setInflight (some g)).FireOnce :=
  h.of_perm (.of_eq (by simp [State.ledger, State.pending, slot, same])) rfl

/-- The sequencer moves on for the completion it already holds. -/
theorem State.FireOnce.setSeq {q p : Sequencer} (seq : s.eng.seq = some q) (same : p.completion = q.completion) :
    (s.setSeq (some p)).FireOnce :=
  h.of_perm (.of_eq (by simp [State.ledger, State.pending, seq, same])) rfl

end

theorem Output.quiet.mute {o : Output} (h : o.quiet) : fired [o] = [] := by
  cases o with
  | resolve c r => exact h.elim
  | reject c e => exact h.elim
  | _ => rfl

/-! ## `sendCmd` and the sequencer -/

theorem callSendCmd_fireOnce {s : State} (h : s.FireOnce) (req : FoxtronRequest) : (callSendCmd req s).FireOnce := by
  rcases callSendCmd_cases req s with
    ⟨-, e⟩ | ⟨-, -, -, e⟩ | ⟨-, -, free, p, -, e⟩ | ⟨-, free, -, e⟩ | ⟨-, -, p, -, e⟩ <;> rw [e]
  · exact (h.answer _).emit _
  · exact h.emit _
  · exact ((h.register free req).emit _).emit _
  · exact (h.register free req).emit _
  · exact ((h.emit (.tx _)).answer _).emit _

theorem seqAdvance_fireOnce {s : State} (h : s.FireOnce) (p : SeqPhase) (r : FoxtronResponse) : (seqAdvance p r s).FireOnce := by
  cases hq : s.eng.seq with
  | none => rw [seqAdvance_idle hq]; exact h
  | some q => rw [seqAdvance_active hq]; exact h.setSeq hq rfl

theorem seqFinish_fireOnce {s : State} (h : s.FireOnce) : (seqFinish s).FireOnce := by
  cases hq : s.eng.seq with
  | none => rw [seqFinish_idle hq]; exact h
  | some q => rw [seqFinish_active hq]; exact h.fireSeq hq

/-- An issued command keeps single firing if its continuation does. -/
theorem seqIssue_fireOnce {next : FoxtronResponse → State → State} (hnext : ∀ r {u : State}, u.FireOnce → (next r u).FireOnce)
    {s : State} (h : s.FireOnce) : (seqIssue next s).FireOnce := by
  cases hq : s.eng.seq with
  | none => rw [seqIssue_idle next hq]; exact h
  | some q =>
    cases hu : s.eng.usable with
    | false => rw [seqIssue_unusable next hu hq]; exact hnext _ (h.answer _)
    | true =>
      cases hf : s.eng.inflight with
      | none => rw [seqIssue_taken next hu hf hq]; exact (h.register hf _).emit _
      | some f => rw [seqIssue_busy next hu hf hq]; exact h.fireSeq hq

theorem seqContinueL_fireOnce (r : FoxtronResponse) {s : State} (h : s.FireOnce) : (seqContinueL r s).FireOnce :=
  seqFinish_fireOnce (seqAdvance_fireOnce h .l r)

theorem seqContinueM_fireOnce (r : FoxtronResponse) {s : State} (h : s.FireOnce) : (seqContinueM r s).FireOnce :=
  seqIssue_fireOnce seqContinueL_fireOnce (seqAdvance_fireOnce h .l r)

theorem seqContinueH_fireOnce (r : FoxtronResponse) {s : State} (h : s.FireOnce) : (seqContinueH r s).FireOnce :=
  seqIssue_fireOnce seqContinueM_fireOnce (seqAdvance_fireOnce h .m r)

theorem seqContinue_fireOnce (r : FoxtronResponse) {s : State} (h : s.FireOnce) : (seqContinue r s).FireOnce := by
  rcases seqContinue_cases r s with ⟨-, e⟩ | ⟨q, -, -, e⟩ | ⟨q, -, -, e⟩ | ⟨q, -, -, e⟩ <;> rw [e]
  · exact h
  · exact seqContinueH_fireOnce r h
  · exact seqContinueM_fireOnce r h
  · exact seqContinueL_fireOnce r h

theorem setSearchAddress_fireOnce (v : BitVec 24) {s : State} (h : s.FireOnce) : (setSearchAddress v s).FireOnce := by
  cases hq : s.eng.seq with
  | some q => rw [setSearchAddress_active hq]; exact h.emit _
  | none => rw [setSearchAddress_idle hq]; exact (seqIssue_fireOnce seqContinueH_fireOnce (h.startSearch hq v)).emit _

/-! ## Routing, cancellation and the session steps -/

theorem distinctRoute_fireOnce (r : FoxtronResponse) {s : State} (h : s.FireOnce) : (distinctRoute r s).FireOnce := by
  rcases distinctRoute_cases r s with ⟨-, e⟩ | ⟨f, hf, -, e⟩ | ⟨f, hf, -, -, e⟩ | ⟨f, q, hf, -, -, e⟩ <;> rw [e]
  · exact h
  · exact h.setInflight hf rfl
  · exact h.fireSlot hf
  · exact seqContinue_fireOnce r (h.fireSlot hf)

theorem cancelInflight_fireOnce {s : State} (h : s.FireOnce) : (cancelInflight s).FireOnce := by
  rcases cancelInflight_cases s with ⟨-, e⟩ | ⟨f, hf, -, e⟩ | ⟨f, q, hf, hq, e⟩ <;> rw [e]
  · exact h
  · exact h.fireSlot hf
  · exact (h.fireSlot hf).fireSeq hq

theorem announceOpen_fireOnce {s : State} (h : s.FireOnce) : (announceOpen s).FireOnce := by
  cases ho : s.eng.openEmitted with
  | true => rw [announceOpen_announced ho]; exact h
  | false =>
    have recorded : (s.setOpenEmitted true).FireOnce := h.of_same rfl rfl rfl rfl
    rw [announceOpen_first ho]
    exact recorded.emit _

theorem startBootTimer_fireOnce {s : State} (h : s.FireOnce) : (startBootTimer s).FireOnce :=
  State.FireOnce.emit (s := s.setBootTimerArmed true) (h.of_same rfl rfl rfl rfl) _

theorem transportOpen_fireOnce {s : State} (h : s.FireOnce) : (transportOpen s).FireOnce := by
  by_cases ignored : s.eng.session = .destroyed ∨ s.eng.transportOpen = true
  · rw [transportOpen_ignored ignored]; exact h
  obtain ⟨alive, shut⟩ := not_or.1 ignored
  rw [Bool.not_eq_true] at shut
  have opened : (s.setTransportOpen true).FireOnce := h.of_same rfl rfl rfl rfl
  cases boot : s.cfg.bootMethod with
  | noBoot =>
    rw [transportOpen_noBoot alive shut boot]
    split
    next => exact announceOpen_fireOnce opened
    next => exact opened
  | waitOnly => rw [transportOpen_waitOnly alive shut boot]; exact startBootTimer_fireOnce opened
  | setDTR =>
    rw [transportOpen_setDTR alive shut boot]
    exact startBootTimer_fireOnce ((opened.emit (.setLine true)).of_same rfl rfl rfl rfl)

theorem transportClose_fireOnce (err : Option Nat) {s : State} (h : s.FireOnce) : (transportClose err s).FireOnce := by
  rcases transportClose_cases err s with ⟨-, e⟩ | ⟨-, e⟩ <;> rw [e]
  · exact h
  · have down : s.shutDown.FireOnce := h.of_same rfl rfl rfl rfl
    exact (cancelInflight_fireOnce down).emit _

theorem timerExpiry_fireOnce {s : State} (h : s.FireOnce) : (timerExpiry s).FireOnce := by
  cases armed : s.eng.bootTimerArmed with
  | false => rw [timerExpiry_unarmed armed]; exact h
  | true => rw [timerExpiry_armed armed]; exact announceOpen_fireOnce (h.of_same rfl rfl rfl rfl)

/-! ## Every step -/

theorem ExecShape.fireOnce {i : Instr} {s t : State} (h : s.FireOnce) (k : ExecShape i s t) : t.FireOnce := by
  cases k with
  | one o ho ht => rw [ht]; exact h.emit o ho.mute
  | two o o' ho ho' ht => rw [ht]; exact (h.emit o ho.mute).emit o' ho'.mute
  | sent req hi ht => rw [ht]; exact callSendCmd_fireOnce h req
  | routed r hi ht => rw [ht]; exact distinctRoute_fireOnce r h

theorem StepShape.fireOnce {x : Input} {s t : State} (h : s.FireOnce) (k : StepShape x s t) : t.FireOnce := by
  cases k with
  | presented e i hx hd k => exact k.fireOnce h
  | strobed o ho ht => rw [ht]; exact h.emit o ho.mute
  | opened hx ht => rw [ht]; exact transportOpen_fireOnce h
  | closed err hx ht => rw [ht]; exact transportClose_fireOnce err h
  | expired hx ht => rw [ht]; exact timerExpiry_fireOnce h
  | cancelled hx ht => rw [ht]; exact cancelInflight_fireOnce h
  | searched v hx ht => rw [ht]; exact setSearchAddress_fireOnce v h

/-- Settles O55, by the shapes a step can have: each operation keeps the ledger free of repetitions. -/
theorem everyCompletionFiresAtMostOnce : Obligations.EveryCompletionFiresAtMostOnce := by
  intro s t h hstep
  rcases step_cases hstep with ⟨-, rfl⟩ | ⟨x, rest, -, k⟩
  · exact h
  · have taken : (s.setInputs rest).FireOnce := h.of_same rfl rfl rfl rfl
    exact k.fireOnce taken

end Sys2Proof.Machine
end

section
/-! What a step may write of the session, the transport record and the two latches (60_exceptions R390, 10_state R28 to R32). -/

namespace Sys2Proof.Machine

/-- From `s` to `t`, taking the input `x`, the session, the transport record and the latches change only as R390 and R29 allow. -/
structure Input.Transition (x : Input) (s t : State) : Prop where
  session : t.eng.session = s.eng.session ∨
    (s.eng.session = .waitingForBoot ∧ t.eng.session = .running ∧ x = .timerExpiry) ∨
    (t.eng.session = .destroyed ∧ ∃ err, x = .transportClose err)
  transport : t.eng.transportOpen = s.eng.transportOpen ∨ (t.eng.transportOpen = true ∧ x = .transportOpen) ∨
    (t.eng.transportOpen = false ∧ ∃ err, x = .transportClose err)
  dtr : s.eng.dtrAsserted = true → t.eng.dtrAsserted = true
  announced : s.eng.openEmitted = true → t.eng.openEmitted = true

theorem Input.Transition.refl (x : Input) (s : State) : x.Transition s s := ⟨.inl rfl, .inl rfl, id, id⟩

theorem State.Frame.transition {s t : State} (h : s.Frame t) (x : Input) : x.Transition s t :=
  ⟨.inl h.session, .inl h.transportOpen, h.dtrAsserted.trans, h.openEmitted.trans⟩

/-- An announcement sets its record and writes nothing else. -/
theorem Input.Transition.announceOpen {x : Input} {s t : State} (h : x.Transition s t) : x.Transition s (announceOpen t) := by
  obtain ⟨session, transport, dtr, -⟩ := h
  obtain ⟨-, writes⟩ := announceOpen_writes t
  constructor <;> rw [writes]
  · exact session
  · exact transport
  · exact dtr
  · exact fun _ => rfl

/-- A transport that opens is recorded; a latch it writes, it sets. -/
theorem transportOpen_transition (s : State) : Input.transportOpen.Transition s (transportOpen s) := by
  by_cases ignored : s.eng.session = .destroyed ∨ s.eng.transportOpen = true
  · rw [transportOpen_ignored ignored]; exact .refl _ s
  obtain ⟨alive, shut⟩ := not_or.1 ignored
  rw [Bool.not_eq_true] at shut
  have opened : Input.transportOpen.Transition s (s.setTransportOpen true) := ⟨.inl rfl, .inr (.inl ⟨rfl, rfl⟩), id, id⟩
  cases boot : s.cfg.bootMethod with
  | noBoot =>
    rw [transportOpen_noBoot alive shut boot]
    split
    next => exact opened.announceOpen
    next => exact opened
  | waitOnly =>
    rw [transportOpen_waitOnly alive shut boot]
    exact ⟨opened.session, opened.transport, id, id⟩
  | setDTR =>
    rw [transportOpen_setDTR alive shut boot]
    exact ⟨opened.session, opened.transport, fun _ => rfl, id⟩

/-- The timer is armed only while the session waits. -/
theorem timerExpiry_transition {s : State} (inv : s.Inv) : Input.timerExpiry.Transition s (timerExpiry s) := by
  cases armed : s.eng.bootTimerArmed with
  | false => rw [timerExpiry_unarmed armed]; exact .refl _ s
  | true =>
    obtain ⟨waiting, -⟩ := inv.timer armed
    have runs : Input.timerExpiry.Transition s ((s.setBootTimerArmed false).setSession .running) :=
      ⟨.inr (.inl ⟨waiting, rfl, rfl⟩), .inl rfl, id, id⟩
    rw [timerExpiry_armed armed]
    exact runs.announceOpen

theorem transportClose_transition (err : Option Nat) (s : State) :
    (Input.transportClose err).Transition s (transportClose err s) := by
  rcases transportClose_cases err s with ⟨-, e⟩ | ⟨-, e⟩ <;> rw [e]
  · exact .refl _ s
  · have frame := (cancelInflight_frame s.shutDown).emit (.event (.sessionClosed err))
    exact ⟨.inr (.inr ⟨frame.session, err, rfl⟩), .inr (.inr ⟨frame.transportOpen, err, rfl⟩),
      frame.dtrAsserted.trans, frame.openEmitted.trans⟩

theorem StepShape.transition {x : Input} {s t : State} (inv : s.Inv) (k : StepShape x s t) : x.Transition s t := by
  cases k with
  | presented e i hx hd k => exact k.frame.transition x
  | strobed o ho ht => rw [ht]; exact ((State.Frame.refl s).emit o).transition x
  | opened hx ht => rw [hx, ht]; exact transportOpen_transition s
  | closed err hx ht => rw [hx, ht]; exact transportClose_transition err s
  | expired hx ht => rw [hx, ht]; exact timerExpiry_transition inv
  | cancelled hx ht => rw [ht]; exact (cancelInflight_frame s).transition x
  | searched v hx ht => rw [ht]; exact (setSearchAddress_frame v s).transition x

/-- Settles O60: the three session steps write what R390 and R29 say, and every other step keeps the frame. -/
theorem sessionTransitions : Obligations.SessionTransitions := by
  intro s t inv hstep
  rcases step_cases hstep with ⟨-, rfl⟩ | ⟨x, rest, presented, k⟩
  · exact ⟨.inl rfl, .inl rfl, id, id⟩
  obtain ⟨session, transport, dtr, announced⟩ := k.transition (inv.setInputs rest)
  refine ⟨session.imp_right (.imp ?_ ?_), transport.imp_right (.imp ?_ ?_), dtr, announced⟩
  · rintro ⟨waiting, runs, rfl⟩
    exact ⟨waiting, runs, rest, presented⟩
  · rintro ⟨ends, err, rfl⟩
    exact ⟨ends, err, rest, presented⟩
  · rintro ⟨opens, rfl⟩
    exact ⟨opens, rest, presented⟩
  · rintro ⟨closes, err, rfl⟩
    exact ⟨closes, err, rest, presented⟩

end Sys2Proof.Machine
end

section
/-! The errors an operation raises to the caller (60_exceptions R385, R402, R420, R425): a pure operation, a correlated request on
a taken slot, and `FirmwareReset`. -/

namespace Sys2Proof.Machine

/-! ## Pure operations -/

/-- Settles O29, by how the operation ends. -/
theorem pureOperationsTouchNoEngineState : Obligations.PureOperationsTouchNoEngineState := by
  refine fun s op rest presented => ⟨fun r returns => ?result, fun e raises => ?error⟩
  case result =>
    have done : fetchInput (.codec op) (s.setInputs rest) = .done ((s.setInputs rest).emit (.result r)) := by
      simp only [fetchInput, fetchCodec, State.setInputs_cfg, returns]
    exact step_of_done presented done
  case error =>
    have done : fetchInput (.codec op) (s.setInputs rest) = .done ((s.setInputs rest).raiseError e) := by
      simp only [fetchInput, fetchCodec, State.setInputs_cfg, raises]
    exact step_of_done presented done

/-! ## A request on a taken slot -/

/-- A correlated instruction, its operands accepted, is given to `sendCmd` as a correlated request. -/
theorem exec_of_correlated {i : Instr} {s : State} (correlated : i.correlated = true) (accepted : i.constructs s.cfg) :
    ∃ req, req.type.correlated = true ∧ exec i s = .next (callSendCmd req s) := by
  rcases exec_cases i s with ⟨d, e, operands, refused, -⟩ | ⟨req, -, type, sent⟩ | ⟨-, -, frame, -⟩ | ⟨r, distinct, -⟩
  · obtain ⟨c, ok⟩ := accepted d operands
    simp [refused] at ok
  · exact ⟨req, type.trans correlated, sent⟩
  · cases hp : i.presented <;> simp [Instr.sends, Instr.correlated, hp] at frame correlated
  · rcases distinct with ⟨x, rfl, -⟩ | ⟨x, rfl, -⟩ <;> simp [Instr.correlated, Instr.presented] at correlated

theorem callSendCmd_busy {s : State} {req : FoxtronRequest} {f : InFlight} (hu : s.eng.usable = true)
    (correlated : req.type.correlated = true) (hf : s.eng.inflight = some f) :
    callSendCmd req s = s.raiseError .requestAlreadyInFlight := by
  simp only [callSendCmd, sendCmd_busy hu correlated hf]

/-- Settles O38. -/
theorem busySlotRefusesCorrelated : Obligations.BusySlotRefusesCorrelated := by
  intro s i f hu hf correlated accepted
  obtain ⟨req, type, sent⟩ := exec_of_correlated correlated accepted
  rw [sent, callSendCmd_busy hu type hf]
  rfl

/-! ## `FirmwareReset` -/

theorem Engine.idle_iff (e : Engine) : e.idle = true ↔ e.inflight = none ∧ e.seq = none := by
  simp [Engine.idle]

/-- The encoder refuses `FirmwareReset` after the slot was taken (48 R334, 60 R383). -/
theorem exec_firmwareReset_free {s : State} (hu : s.eng.usable = true) (hf : s.eng.inflight = none) (ds : Option Bool) :
    exec (.firmwareReset ds) s = .next ((register (.firmwareReset ds) s).raiseError .forbiddenOperation) := by
  have refused : frameEncode s.cfg (.firmwareReset ds) = .error .forbiddenOperation := rfl
  calc exec (.firmwareReset ds) s
      = .next (callSendCmd (.firmwareReset ds) s) := rfl
    _ = _ := by simp only [callSendCmd, sendCmd_forbidden hu rfl hf refused]

/-- Settles O37: `reset()` finds the slot taken and the sequencer idle. -/
theorem firmwareResetIsForbidden : Obligations.FirmwareResetIsForbidden := by
  intro s ds hu idle
  obtain ⟨hf, hq⟩ := s.eng.idle_iff.1 idle
  rw [exec_firmwareReset_free hu hf]
  refine ⟨?raised, fun t ht => ?reset⟩
  case raised =>
    rw [← echoes_eq]
    rfl
  case reset =>
    cases ht
    have slot := register_inflight (.firmwareReset ds) s
    rw [resetRequest, cancelInflight_request (s := (register (.firmwareReset ds) s).raiseError _) slot hq]
    simp [register, State.setInflight, State.newCompletion, State.emit, ← hf]

end Sys2Proof.Machine
end
